-- ==== Sys2Proof/Word.lean ====
section
/-!
DEFINITION. The words of the control links (R182, R183, R186): what the wire carries as bits.
-/

namespace Sys2Proof

/-- One 32-bit link frame (R182). -/
abbrev Frame := BitVec 32

/-- The 24-bit argument of a request, and the 24 bits of reply data (R183, R184). -/
abbrev Arg := BitVec 24

/-- The 20-bit item argument of a READ, and the 20-bit value of a WRITE (R186). -/
abbrev Value := BitVec 20

/-- The four-bit word index of a READ, and the four-bit selector of a WRITE (R186). -/
abbrev Selector := BitVec 4

/-- The five-bit code of a request within its class (R183). -/
abbrev Code := BitVec 5

/-- The set of the eighteen event kinds: each kind stands at its bit number of R187. -/
abbrev KindSet := BitVec 18

/-- One byte from the data slicer (R116, R191). -/
abbrev SlicerByte := BitVec 8

end Sys2Proof
end

