-- ==== Sys2Proof/Syntax.lean ====
section
/-!
DEFINITION. The commands of the part: one constructor of `Instr` for each row of spec/opcode_table.json.

A command is one whole step (95_what_each_step_holds.md): a frame of one link from select-fall to select-rise, or one
event of the mechanism, the tuner, a timer or a supply. Readings that the part samples at that step come with it.
-/

namespace Sys2Proof

/-- The two control links (R180): Link P of the panel controller, Link G of the guide controller. -/
inductive Link where
  | p
  | g
  deriving DecidableEq, Repr, Inhabited

/-- The rank bit of a request word (R183) and the two link ranks, 1 and 2 (00_scope.md, Ranks). -/
inductive Rank where
  | user
  | automatic
  deriving DecidableEq, Repr, Inhabited

/-- The two reels (03, opening): the names belong to the reels and not to the direction. -/
inductive Reel where
  | supply
  | takeUp
  deriving DecidableEq, Repr, Inhabited

/-- The speed-sense code of the servo IC (R3). -/
inductive SpeedCode where
  | sp
  | lp
  | ep
  | unknown
  deriving DecidableEq, Repr, Inhabited

/-- The reading of the tuner module's AFT line (R97, R105). -/
inductive AftLine where
  | high
  | low
  deriving DecidableEq, Repr, Inhabited

/-- The mechanism's switches and sensors as recovery reads them (R34): true is closed, tab present, active. -/
structure Readings where
  cassetteClosed : Bool
  parkedClosed   : Bool
  tabPresent     : Bool
  tapeStart      : Bool
  tapeEnd        : Bool
  deriving DecidableEq, Repr, Inhabited

/-- A flag for each of the four store areas, in their fixed order (R175). -/
structure AreaFlags where
  presets  : Bool
  events   : Bool
  settings : Bool
  classes  : Bool
  deriving DecidableEq, Repr, Inhabited

/-- The commands. A request carries its link, its requested rank and its argument as the frame does (R183, R186):
a READ its item argument (word index 0), a WRITE its selector and value, an ACTION or TAKE its 24-bit argument. -/
inductive Instr where
  -- the ports (chapter 10)
  | frameDiscarded (l : Link) (edges : Nat)
  | badRequest (l : Link) (w : Frame)
  | nop (l : Link) (r : Rank) (arg : Arg)
  -- READ
  | readTransportDetail (l : Link) (r : Rank) (item : Value)
  | readFaults (l : Link) (r : Rank) (item : Value)
  | readCounter (l : Link) (r : Rank) (item : Value)
  | readIndexListEntry (l : Link) (r : Rank) (item : Value)
  | readGauge (l : Link) (r : Rank) (item : Value)
  | readTime (l : Link) (r : Rank)
  | readDate (l : Link) (r : Rank)
  | readClockStatus (l : Link) (r : Rank) (item : Value)
  | readTunerStatus (l : Link) (r : Rank) (item : Value)
  | readAppliedPreset (l : Link) (r : Rank) (item : Value)
  | readLabel (l : Link) (r : Rank)
  | readLabelSecondPart (l : Link) (r : Rank)
  | readReceiverStatus (l : Link) (r : Rank) (item : Value)
  | readEventWorkRecordField (l : Link) (r : Rank) (item : Value)
  | readPresetWorkRecordField (l : Link) (r : Rank) (item : Value)
  | readTimerStatus (l : Link) (r : Rank) (item : Value)
  | readSettings (l : Link) (r : Rank) (item : Value)
  | readLinkStatus (l : Link) (r : Rank) (item : Value)
  | readNextWord (l : Link) (r : Rank) (code : Code) (index : Selector) (item : Value)
  -- WRITE
  | writeEventWorkRecordField (l : Link) (r : Rank) (field : Selector) (value : Value)
  | writePresetWorkRecordField (l : Link) (r : Rank) (field : Selector) (value : Value)
  | capture (l : Link) (r : Rank) (value : Value)
  | writeMask (l : Link) (r : Rank) (selector : Selector) (value : Value)
  | writeSetting (l : Link) (r : Rank) (number : Selector) (value : Value)
  -- ACTION: transport
  | play (l : Link) (r : Rank) (arg : Arg)
  | record (l : Link) (r : Rank) (arg : Arg)
  | stop (l : Link) (r : Rank) (arg : Arg)
  | pause (l : Link) (r : Rank) (arg : Arg)
  | cue (l : Link) (r : Rank) (arg : Arg)
  | review (l : Link) (r : Rank) (arg : Arg)
  | fwind (l : Link) (r : Rank) (arg : Arg)
  | rwind (l : Link) (r : Rank) (arg : Arg)
  | eject (l : Link) (r : Rank) (arg : Arg)
  | clearFaults (l : Link) (r : Rank) (arg : Arg)
  -- ACTION: counter, gauge, clock
  | resetCounter (l : Link) (r : Rank) (arg : Arg)
  | memoryStop (l : Link) (r : Rank) (arg : Arg)
  | searchCounter (l : Link) (r : Rank) (arg : Arg)
  | searchIndex (l : Link) (r : Rank) (arg : Arg)
  | setCassetteClass (l : Link) (r : Rank) (arg : Arg)
  | setDate (l : Link) (r : Rank) (arg : Arg)
  | setTime (l : Link) (r : Rank) (arg : Arg)
  -- ACTION: tuner
  | selectPreset (l : Link) (r : Rank) (arg : Arg)
  | tuneStep (l : Link) (r : Rank) (arg : Arg)
  | searchStation (l : Link) (r : Rank) (arg : Arg)
  | searchStore (l : Link) (r : Rank) (arg : Arg)
  | fetchPreset (l : Link) (r : Rank) (arg : Arg)
  | storePreset (l : Link) (r : Rank) (arg : Arg)
  -- ACTION: events, timer, power, port
  | fetchEvent (l : Link) (r : Rank) (arg : Arg)
  | storeEvent (l : Link) (r : Rank) (arg : Arg)
  | newEvent (l : Link) (r : Rank) (arg : Arg)
  | deleteEvent (l : Link) (r : Rank) (arg : Arg)
  | timerOnOff (l : Link) (r : Rank) (arg : Arg)
  /-- TIMER_LOCK_UNLOCK with any argument but 0 -/
  | timerLock (l : Link) (r : Rank) (arg : Arg)
  /-- TIMER_LOCK_UNLOCK with argument 0 -/
  | timerUnlock (l : Link) (r : Rank)
  /-- POWER with any argument but 0 -/
  | powerOn (l : Link) (r : Rank) (arg : Arg)
  /-- POWER with argument 0 -/
  | powerOff (l : Link) (r : Rank)
  | resetLink (l : Link) (r : Rank) (arg : Arg)
  | take (l : Link) (r : Rank) (selection : Arg)
  -- mechanism switches and timers (chapter 1)
  | cassetteSwitchCloses
  | cassetteSwitchOpens
  /-- with the record-tab switch's reading at that moment -/
  | parkedSwitchCloses (tabPresent : Bool)
  | threadedSwitchCloses
  | insertTimeout
  | threadTimeout
  | threadRetryDelay
  | unthreadTimeout
  | ejectTimeout
  | stillLimit
  | recPauseLimit
  | stopThreadedLimit
  | oneTouchTimeRunsOut
  | drumSpinUpTimeout
  | drumLostTimeout
  | drumLockChange (present : Bool)
  | speedSenseChange (code : SpeedCode)
  /-- the tape-end sensor's reading becomes `active` -/
  | tapeEndSensorActive (active : Bool)
  /-- the tape-start sensor's reading becomes `active` -/
  | tapeStartSensorActive (active : Bool)
  | windLoadTick
  -- counter, reels (chapters 2 and 3)
  | controlTrackPulse (mark : Bool)
  | trackStatusTimeout
  /-- `instant` is the pulse's instant in milliseconds -/
  | reelPulse (reel : Reel) (instant : Nat)
  | stallTimerExpiry
  | burstPartEnd
  -- clock (chapter 4)
  | mainsCycle
  | crystalTick
  -- tuner and labels (chapters 5 and 6)
  | dataSlicerByte (byte : SlicerByte) (parityGood : Bool)
  | quietTimerExpiry
  | gapTimerExpiry
  | synthLockChange (present : Bool)
  | settlingTimeout
  | aftWindow (line : AftLine)
  | searchStepEnd (sync : Bool) (lock : Bool) (aft : AftLine)
  -- timer engine, store, supplies (chapters 8 and 9)
  | silenceTimerExpiry
  | powerReturnTimerExpiry
  | storeWriteAck
  | storeWriteTimeout
  | mainsLoss
  | mainsRestore (readings : Readings)
  /-- `failed` names the areas whose stored sum the load finds wrong whatever this part last wrote there -/
  | coldStart (mains : Bool) (readings : Readings) (failed : AreaFlags)
  | lineReset (readings : Readings)
  deriving DecidableEq, Repr

end Sys2Proof
end

