-- ==== Sys2Proof/WellFormed.lean ====
section
/-!
DEFINITION. Which commands a sender can form: the operands that a frame or an event of the part can carry.
-/

namespace Sys2Proof

/-- Whether a request word names nothing: a READ code above 13, a WRITE code above 3, or a TAKE with a code other
than 0 (R183, and the request table of chapter 10). -/
def namesNothing (w : Frame) : Bool :=
  match (w.extractLsb' 30 2).toNat with
  | 0 => decide (14 ≤ (w.extractLsb' 24 5).toNat)
  | 1 => decide (4 ≤ (w.extractLsb' 24 5).toNat)
  | 2 => false
  | _ => decide (w.extractLsb' 24 5 ≠ 0)

/-- A command that a sender can form. A discarded frame has a clock-edge count other than 32 (R182), a BAD_REQUEST a
word that names nothing, the rows that share one request the arguments that are theirs, a later word of a READ an index
of 1 or more and a READ code, and a name is one its row's item argument admits. -/
def Instr.wf : Instr → Bool
  | .frameDiscarded _ edges => edges != 32
  | .badRequest _ w => namesNothing w
  | .readClockStatus _ _ item => decide (2 ≤ item.toNat)
  | .readReceiverStatus _ _ item => decide (2 ≤ item.toNat)
  | .readNextWord _ _ code index _ => decide (code.toNat < 14) && index != 0
  | .writePresetWorkRecordField _ _ field _ => field != 9
  | .timerLock _ _ arg => arg != 0
  | .powerOn _ _ arg => arg != 0
  | .readTransportDetail _ _ _ => true
  | .readFaults _ _ _ => true
  | .readCounter _ _ _ => true
  | .readIndexListEntry _ _ _ => true
  | .readGauge _ _ _ => true
  | .readTunerStatus _ _ _ => true
  | .readAppliedPreset _ _ _ => true
  | .readEventWorkRecordField _ _ _ => true
  | .readPresetWorkRecordField _ _ _ => true
  | .readTimerStatus _ _ _ => true
  | .readSettings _ _ _ => true
  | .readLinkStatus _ _ _ => true
  | .readTime _ _ => true
  | .readDate _ _ => true
  | .readLabel _ _ => true
  | .readLabelSecondPart _ _ => true
  | .writeEventWorkRecordField _ _ _ _ => true
  | .capture _ _ _ => true
  | .writeMask _ _ _ _ => true
  | .writeSetting _ _ _ _ => true
  | .nop _ _ _ => true
  | .play _ _ _ => true
  | .record _ _ _ => true
  | .stop _ _ _ => true
  | .pause _ _ _ => true
  | .cue _ _ _ => true
  | .review _ _ _ => true
  | .fwind _ _ _ => true
  | .rwind _ _ _ => true
  | .eject _ _ _ => true
  | .clearFaults _ _ _ => true
  | .resetCounter _ _ _ => true
  | .memoryStop _ _ _ => true
  | .searchCounter _ _ _ => true
  | .searchIndex _ _ _ => true
  | .setCassetteClass _ _ _ => true
  | .setDate _ _ _ => true
  | .setTime _ _ _ => true
  | .selectPreset _ _ _ => true
  | .tuneStep _ _ _ => true
  | .searchStation _ _ _ => true
  | .searchStore _ _ _ => true
  | .fetchPreset _ _ _ => true
  | .storePreset _ _ _ => true
  | .fetchEvent _ _ _ => true
  | .storeEvent _ _ _ => true
  | .newEvent _ _ _ => true
  | .deleteEvent _ _ _ => true
  | .timerOnOff _ _ _ => true
  | .timerUnlock _ _ => true
  | .powerOff _ _ => true
  | .resetLink _ _ _ => true
  | .take _ _ _ => true
  | .cassetteSwitchCloses => true
  | .cassetteSwitchOpens => true
  | .parkedSwitchCloses _ => true
  | .threadedSwitchCloses => true
  | .insertTimeout => true
  | .threadTimeout => true
  | .threadRetryDelay => true
  | .unthreadTimeout => true
  | .ejectTimeout => true
  | .stillLimit => true
  | .recPauseLimit => true
  | .stopThreadedLimit => true
  | .oneTouchTimeRunsOut => true
  | .drumSpinUpTimeout => true
  | .drumLostTimeout => true
  | .drumLockChange _ => true
  | .speedSenseChange _ => true
  | .tapeEndSensorActive _ => true
  | .tapeStartSensorActive _ => true
  | .windLoadTick => true
  | .controlTrackPulse _ => true
  | .trackStatusTimeout => true
  | .reelPulse _ _ => true
  | .stallTimerExpiry => true
  | .burstPartEnd => true
  | .mainsCycle => true
  | .crystalTick => true
  | .dataSlicerByte _ _ => true
  | .quietTimerExpiry => true
  | .gapTimerExpiry => true
  | .synthLockChange _ => true
  | .settlingTimeout => true
  | .aftWindow _ => true
  | .searchStepEnd _ _ _ => true
  | .silenceTimerExpiry => true
  | .powerReturnTimerExpiry => true
  | .storeWriteAck => true
  | .storeWriteTimeout => true
  | .mainsLoss => true
  | .mainsRestore _ => true
  | .coldStart _ _ _ => true
  | .lineReset _ => true

end Sys2Proof
end

