-- ==== Sys2Proof/Decode.lean ====
section
/-!
DEFINITION. The request word of a whole frame (R183, R186): decoding it into a command, and the encoder beside it.

spec/opcode_table.json gives no row any bits, so `decodeTableWord` answers none for every word (log entry 10). What the
spec does give is the layout of the request word, in the chapter on control links: `decodeRequest` follows that.
-/

namespace Sys2Proof

/-- Byte 0 of a request word: class in the two top bits, the rank bit, the code in the five low bits (R183). -/
def Frame.cls (w : Frame) : BitVec 2 := w.extractLsb' 30 2
def Frame.rank (w : Frame) : Rank := if w.getLsbD 29 then .automatic else .user
def Frame.code (w : Frame) : Code := w.extractLsb' 24 5

/-- Bytes 1 to 3: the 24-bit argument, and its two parts in a READ or a WRITE (R183, R186). -/
def Frame.arg (w : Frame) : Arg := w.extractLsb' 0 24
def Frame.selector (w : Frame) : Selector := w.extractLsb' 20 4
def Frame.value (w : Frame) : Value := w.extractLsb' 0 20

/-- Class READ (R186): word index 0 names an item, a larger index the next word of the part read. -/
def decodeRead (l : Link) (w : Frame) : Instr :=
  if 14 ≤ w.code.toNat then .badRequest l w
  else if w.selector ≠ 0 then .readNextWord l w.rank w.code w.selector w.value
  else
    match w.code.toNat with
    | 0 => .readTransportDetail l w.rank w.value
    | 1 => .readFaults l w.rank w.value
    | 2 => .readCounter l w.rank w.value
    | 3 => .readIndexListEntry l w.rank w.value
    | 4 => .readGauge l w.rank w.value
    | 5 =>
      match w.value.toNat with
      | 0 => .readTime l w.rank
      | 1 => .readDate l w.rank
      | _ => .readClockStatus l w.rank w.value
    | 6 => .readTunerStatus l w.rank w.value
    | 7 => .readAppliedPreset l w.rank w.value
    | 8 =>
      match w.value.toNat with
      | 0 => .readLabel l w.rank
      | 1 => .readLabelSecondPart l w.rank
      | _ => .readReceiverStatus l w.rank w.value
    | 9 => .readEventWorkRecordField l w.rank w.value
    | 10 => .readPresetWorkRecordField l w.rank w.value
    | 11 => .readTimerStatus l w.rank w.value
    | 12 => .readSettings l w.rank w.value
    | 13 => .readLinkStatus l w.rank w.value
    | _ => .badRequest l w

/-- Class WRITE: codes 4..31 name nothing; selector 9 of the preset work record is Capture (R110). -/
def decodeWrite (l : Link) (w : Frame) : Instr :=
  match w.code.toNat with
  | 0 => .writeEventWorkRecordField l w.rank w.selector w.value
  | 1 =>
    if w.selector = 9 then .capture l w.rank w.value
    else .writePresetWorkRecordField l w.rank w.selector w.value
  | 2 => .writeMask l w.rank w.selector w.value
  | 3 => .writeSetting l w.rank w.selector w.value
  | _ => .badRequest l w

/-- Class ACTION: every code names a request. -/
def decodeAction (l : Link) (w : Frame) : Instr :=
  match w.code.toNat with
  | 0 => .nop l w.rank w.arg
  | 1 => .play l w.rank w.arg
  | 2 => .record l w.rank w.arg
  | 3 => .stop l w.rank w.arg
  | 4 => .pause l w.rank w.arg
  | 5 => .cue l w.rank w.arg
  | 6 => .review l w.rank w.arg
  | 7 => .fwind l w.rank w.arg
  | 8 => .rwind l w.rank w.arg
  | 9 => .eject l w.rank w.arg
  | 10 => .clearFaults l w.rank w.arg
  | 11 => .resetCounter l w.rank w.arg
  | 12 => .memoryStop l w.rank w.arg
  | 13 => .searchCounter l w.rank w.arg
  | 14 => .searchIndex l w.rank w.arg
  | 15 => .setCassetteClass l w.rank w.arg
  | 16 => .setDate l w.rank w.arg
  | 17 => .setTime l w.rank w.arg
  | 18 => .selectPreset l w.rank w.arg
  | 19 => .tuneStep l w.rank w.arg
  | 20 => .searchStation l w.rank w.arg
  | 21 => .searchStore l w.rank w.arg
  | 22 => .fetchPreset l w.rank w.arg
  | 23 => .storePreset l w.rank w.arg
  | 24 => .fetchEvent l w.rank w.arg
  | 25 => .storeEvent l w.rank w.arg
  | 26 => .newEvent l w.rank w.arg
  | 27 => .deleteEvent l w.rank w.arg
  | 28 => .timerOnOff l w.rank w.arg
  | 29 => if w.arg = 0 then .timerUnlock l w.rank else .timerLock l w.rank w.arg
  | 30 => if w.arg = 0 then .powerOff l w.rank else .powerOn l w.rank w.arg
  | _ => .resetLink l w.rank w.arg

/-- The command that a whole frame's request word spells on link `l` (R183). Total: a word that names nothing is the
command BAD_REQUEST. -/
def decodeRequest (l : Link) (w : Frame) : Instr :=
  match w.cls.toNat with
  | 0 => decodeRead l w
  | 1 => decodeWrite l w
  | 2 => decodeAction l w
  | _ => if w.code = 0 then .take l w.rank w.arg else .badRequest l w

/-- The rank bit (R183). -/
def Rank.bit : Rank → BitVec 1
  | .user => 0
  | .automatic => 1

/-- A request word from its class, rank, code and argument (R183). -/
def requestWord (cls : BitVec 2) (r : Rank) (code : Code) (arg : Arg) : Frame :=
  cls ++ (r.bit ++ (code ++ arg))

/-- The word of a READ: word index and item argument (R186). -/
def readWord (r : Rank) (code : Code) (index : Selector) (item : Value) : Frame :=
  requestWord 0 r code (index ++ item)

/-- The word of a WRITE: selector and value (R186). -/
def writeWord (r : Rank) (code : Code) (selector : Selector) (value : Value) : Frame :=
  requestWord 1 r code (selector ++ value)

/-- The word of an ACTION (R183). -/
def actionWord (r : Rank) (code : Code) (arg : Arg) : Frame := requestWord 2 r code arg

/-- The link and request word of a command that is a request; none for a discarded frame and for an event. -/
def encodeRequest : Instr → Option (Link × Frame)
  | .badRequest l w => some (l, w)
  | .readTransportDetail l r item => some (l, readWord r 0 0 item)
  | .readFaults l r item => some (l, readWord r 1 0 item)
  | .readCounter l r item => some (l, readWord r 2 0 item)
  | .readIndexListEntry l r item => some (l, readWord r 3 0 item)
  | .readGauge l r item => some (l, readWord r 4 0 item)
  | .readTunerStatus l r item => some (l, readWord r 6 0 item)
  | .readAppliedPreset l r item => some (l, readWord r 7 0 item)
  | .readEventWorkRecordField l r item => some (l, readWord r 9 0 item)
  | .readPresetWorkRecordField l r item => some (l, readWord r 10 0 item)
  | .readTimerStatus l r item => some (l, readWord r 11 0 item)
  | .readSettings l r item => some (l, readWord r 12 0 item)
  | .readLinkStatus l r item => some (l, readWord r 13 0 item)
  | .readTime l r => some (l, readWord r 5 0 0)
  | .readDate l r => some (l, readWord r 5 0 1)
  | .readClockStatus l r item => some (l, readWord r 5 0 item)
  | .readLabel l r => some (l, readWord r 8 0 0)
  | .readLabelSecondPart l r => some (l, readWord r 8 0 1)
  | .readReceiverStatus l r item => some (l, readWord r 8 0 item)
  | .readNextWord l r code index item => some (l, readWord r code index item)
  | .writeEventWorkRecordField l r field value => some (l, writeWord r 0 field value)
  | .writePresetWorkRecordField l r field value => some (l, writeWord r 1 field value)
  | .capture l r value => some (l, writeWord r 1 9 value)
  | .writeMask l r selector value => some (l, writeWord r 2 selector value)
  | .writeSetting l r number value => some (l, writeWord r 3 number value)
  | .nop l r arg => some (l, actionWord r 0 arg)
  | .play l r arg => some (l, actionWord r 1 arg)
  | .record l r arg => some (l, actionWord r 2 arg)
  | .stop l r arg => some (l, actionWord r 3 arg)
  | .pause l r arg => some (l, actionWord r 4 arg)
  | .cue l r arg => some (l, actionWord r 5 arg)
  | .review l r arg => some (l, actionWord r 6 arg)
  | .fwind l r arg => some (l, actionWord r 7 arg)
  | .rwind l r arg => some (l, actionWord r 8 arg)
  | .eject l r arg => some (l, actionWord r 9 arg)
  | .clearFaults l r arg => some (l, actionWord r 10 arg)
  | .resetCounter l r arg => some (l, actionWord r 11 arg)
  | .memoryStop l r arg => some (l, actionWord r 12 arg)
  | .searchCounter l r arg => some (l, actionWord r 13 arg)
  | .searchIndex l r arg => some (l, actionWord r 14 arg)
  | .setCassetteClass l r arg => some (l, actionWord r 15 arg)
  | .setDate l r arg => some (l, actionWord r 16 arg)
  | .setTime l r arg => some (l, actionWord r 17 arg)
  | .selectPreset l r arg => some (l, actionWord r 18 arg)
  | .tuneStep l r arg => some (l, actionWord r 19 arg)
  | .searchStation l r arg => some (l, actionWord r 20 arg)
  | .searchStore l r arg => some (l, actionWord r 21 arg)
  | .fetchPreset l r arg => some (l, actionWord r 22 arg)
  | .storePreset l r arg => some (l, actionWord r 23 arg)
  | .fetchEvent l r arg => some (l, actionWord r 24 arg)
  | .storeEvent l r arg => some (l, actionWord r 25 arg)
  | .newEvent l r arg => some (l, actionWord r 26 arg)
  | .deleteEvent l r arg => some (l, actionWord r 27 arg)
  | .timerOnOff l r arg => some (l, actionWord r 28 arg)
  | .timerLock l r arg => some (l, actionWord r 29 arg)
  | .timerUnlock l r => some (l, actionWord r 29 0)
  | .powerOn l r arg => some (l, actionWord r 30 arg)
  | .powerOff l r => some (l, actionWord r 30 0)
  | .resetLink l r arg => some (l, actionWord r 31 arg)
  | .take l r selection => some (l, requestWord 3 r 0 selection)
  | .frameDiscarded _ _ => none
  | .cassetteSwitchCloses => none
  | .cassetteSwitchOpens => none
  | .parkedSwitchCloses _ => none
  | .threadedSwitchCloses => none
  | .insertTimeout => none
  | .threadTimeout => none
  | .threadRetryDelay => none
  | .unthreadTimeout => none
  | .ejectTimeout => none
  | .stillLimit => none
  | .recPauseLimit => none
  | .stopThreadedLimit => none
  | .oneTouchTimeRunsOut => none
  | .drumSpinUpTimeout => none
  | .drumLostTimeout => none
  | .drumLockChange _ => none
  | .speedSenseChange _ => none
  | .tapeEndSensorActive _ => none
  | .tapeStartSensorActive _ => none
  | .windLoadTick => none
  | .controlTrackPulse _ => none
  | .trackStatusTimeout => none
  | .reelPulse _ _ => none
  | .stallTimerExpiry => none
  | .burstPartEnd => none
  | .mainsCycle => none
  | .crystalTick => none
  | .dataSlicerByte _ _ => none
  | .quietTimerExpiry => none
  | .gapTimerExpiry => none
  | .synthLockChange _ => none
  | .settlingTimeout => none
  | .aftWindow _ => none
  | .searchStepEnd _ _ _ => none
  | .silenceTimerExpiry => none
  | .powerReturnTimerExpiry => none
  | .storeWriteAck => none
  | .storeWriteTimeout => none
  | .mainsLoss => none
  | .mainsRestore _ => none
  | .coldStart _ _ _ => none
  | .lineReset _ => none

/-- The command that a word spells by the table's bits. The table gives no row any bits, so no word spells a command
(log entry 10). -/
def decodeTableWord (_nbits _w : Nat) : Option Instr := none

end Sys2Proof
end

