-- ==== Sys2Proof/Config.lean ====
section
/-!
DEFINITION. The numbers the manual fixes for the part, and the two values it leaves open (free values, with no body).
-/

namespace Sys2Proof.Config

/-- The highest epoch minute of the clock's range (00_scope.md, Time and dates). -/
def lastEpochMinute : Nat := 52595999

/-- The days of 1990-01-01..2089-12-31 (00_scope.md, Time and dates). -/
def calendarDays : Nat := 36525

/-- The wind load accumulator's top, where WIND_OVERLOAD is latched (R31). -/
def windOverloadLevel : Nat := 9600

/-- The re-arm level at or below which CLEAR_FAULTS removes WIND_OVERLOAD (R31, R32). -/
def windRearmLevel : Nat := 4800

/-- Units of 1/600 s in one minute (R74). -/
def unitsPerMinute : Nat := 36000

/-- The most seconds recorded time holds (R149). -/
def maxRecordedSeconds : Nat := 86340

/-- The divider range (R91). -/
def minDivider : Nat := 1658
def maxDivider : Nat := 18178

/-- The steps that cover the whole tuning range (R105, R106). -/
def fullRangeSteps : Nat := 826

/-- The seven days of the conflict horizon, in minutes (R141). -/
def conflictHorizon : Nat := 10080

/-- Stall timeouts in milliseconds (R58). -/
def stallSp : Nat := 3000
def stallLp : Nat := 6000
def stallEp : Nat := 9000
def stallScan : Nat := 1500
def stallWind : Nat := 1000

/-- How many pending actions of the Timer Engine one step may carry out (log entry 12): far above what
32 slots, each with at most two occurrences due within one lead, can ask for. -/
def engineActions : Nat := 600

/-- What the nonvolatile store holds in an area after an area write that it never acknowledged. -/
inductive StoreResidue where
  /-- the copy that stood there before the write -/
  | kept
  /-- the copy the write carried -/
  | written
  /-- neither: the area fails its sum -/
  | torn
  deriving DecidableEq, Repr, Inhabited

/-- FREE VALUE (log entry 8): R176 says what the part does when no acknowledgement has come, and not what the
store then holds. `n` is the number of such failures so far. -/
opaque storeResidue : Nat → StoreResidue

/-- FREE VALUE (log entry 52): R70 computes the published remaining at SP from the total minutes of the active class, and no
rule says what a publication with no class active gives. The argument is the published fraction; only the range of R70
holds of the result, which the one reader of this value keeps (Gauge.remainingFor). -/
opaque unclassedRemaining : Nat → Nat

/-- The most seconds the published remaining at SP holds (R62, R70). -/
def maxRemainingSp : Nat := 28800

end Sys2Proof.Config
end

