-- ==== Sys2Proof/Machine/State.lean ====
section
/-!
DEFINITION. The state of the part: every record the chapters give its blocks, as plain data, and the state after reset.
-/

namespace Sys2Proof.Machine

/-! ## Stops -/

/-- The part never stops on a fault: every command of the spec leaves a next state. -/
inductive Fault where
  deriving DecidableEq, Repr

/-- Why a step may be refused: raised by `exec` alone, for a command that has no meaning yet (safe). -/
inductive Refusal where
  | notModelled (mnemonic : String)
  deriving DecidableEq, Repr

/-! ## Shared names -/

/-- One value for each link. -/
structure PerLink (α : Type) where
  p : α
  g : α
  deriving DecidableEq, Repr

/-- The eighteen event kinds, in the order of their bit numbers (R187). -/
inductive Kind where
  | transport | fault | cassette | tapeEdge | searchEnd | gauge | clock | tuner | stationSearchEnd
  | label | eventTable | timerStart | timerEnd | timerState | power | store | linkError | aftLimit
  deriving DecidableEq, Repr

/-- The refusal codes, in the order of their numbers 1..17 (R184). -/
inductive Refuse where
  | badRequest | badArg | rank | locked | busy | wrongState | noCassette | noTab | fault
  | stale | full | emptySlot | clockUnset | tapeEnd | notOn | noPreset | past
  deriving DecidableEq, Repr

/-- The tape speeds (00_scope.md, Tape speeds). -/
inductive Speed where
  | sp | lp | ep
  deriving DecidableEq, Repr, Inhabited

/-- The direction of tape motion that the transport reports (R35, R37). -/
inductive Direction where
  | forward | reverse | atRest
  deriving DecidableEq, Repr

/-- A calendar date of the clock's range (00_scope.md). -/
structure Date where
  year  : Nat
  month : Nat
  day   : Nat
  deriving DecidableEq, Repr, Inhabited

/-- A time of day. -/
structure Time where
  hour   : Nat
  minute : Nat
  second : Nat
  deriving DecidableEq, Repr, Inhabited

/-- A date with its time. -/
structure DateTime where
  date : Date
  time : Time
  deriving DecidableEq, Repr, Inhabited

/-! ## Chapter 1: the transport -/

/-- The sixteen transport states, in the order of their codes (R1). -/
inductive TState where
  | empty | inserting | parked | threading | stop | play | still | record
  | recPause | cue | review | fwind | rwind | unthreading | ejecting | fault
  deriving DecidableEq, Repr

/-- Whose RECORD an intent or a move carries out: a link's, with its one-touch count 0..8, or the Timer Engine's, with
its speed and mark flag (R4, R7, R12). -/
inductive RecordSource where
  | link (oneTouch : Nat)
  | engine (speed : Speed) (mark : Bool)
  deriving DecidableEq, Repr

/-- The intents (R1, R4); a RECORD keeps what the request carried. -/
inductive Intent where
  | play
  | record (src : RecordSource)
  | cue | review | fwind | rwind | stop | parked | eject
  deriving DecidableEq, Repr

/-- The transport holder (R1, R5): a kind, and a link where a link is concerned. -/
inductive Holder where
  | none
  | timer
  | user (l : Link)
  | auto (l : Link)
  deriving DecidableEq, Repr

/-- The tab status (R1). -/
inductive TabStatus where
  | present | absent | unknown
  deriving DecidableEq, Repr

/-- The drum phase (R26); SPIN_UP carries its 2 s timer and LOST its 1 s timer. -/
inductive DrumPhase where
  | off | spinUp | locked | lost
  deriving DecidableEq, Repr

/-- The mechanism timer of the motion in progress, by what it times (R18, R20, R22, R23). -/
inductive MotionTimer where
  | stopped
  /-- INSERT_TIMEOUT, 3 s -/
  | insert
  /-- THREAD_TIMEOUT, 4 s, of the first attempt -/
  | threadFirst
  /-- UNTHREAD_TIMEOUT, 4 s, of the reversal between the attempts -/
  | threadReversal
  /-- THREAD_RETRY_DELAY, 1 s -/
  | threadDelay
  /-- THREAD_TIMEOUT, 4 s, of the second attempt -/
  | threadSecond
  /-- UNTHREAD_TIMEOUT, 4 s -/
  | unthread
  /-- EJECT_TIMEOUT, 3 s -/
  | eject
  deriving DecidableEq, Repr

/-- The timer of the state limit in force (R24, R25). -/
inductive LimitTimer where
  | stopped
  /-- STILL_LIMIT, 300 s -/
  | still
  /-- REC_PAUSE_LIMIT, 300 s -/
  | recPause
  /-- STOP_THREADED_LIMIT, 120 s -/
  | stopThreaded
  deriving DecidableEq, Repr

/-- The transport record of R1, less the latched fault set and the wind load accumulator (`Protection`). -/
structure Transport where
  state       : TState
  intent      : Option Intent
  holder      : Holder
  tab         : TabStatus
  speed       : Speed
  recordSpeed : Speed
  /-- what is left of the one-touch time, in units of 1/600 s (log entry 13) -/
  oneTouch    : Option Nat
  motion      : MotionTimer
  limit       : LimitTimer
  drum        : DrumPhase
  deriving DecidableEq, Repr

/-- The latched fault set: each of the six kinds is present or absent (R29). -/
structure Faults where
  threadJam    : Bool
  unthreadJam  : Bool
  ejectJam     : Bool
  reelStall    : Bool
  windOverload : Bool
  drumFault    : Bool
  deriving DecidableEq, Repr

/-- The six fault kinds (R29). -/
inductive FaultKind where
  | threadJam | unthreadJam | ejectJam | reelStall | windOverload | drumFault
  deriving DecidableEq, Repr

/-- The latched fault set and the wind load accumulator (R29, R31). -/
structure Protection where
  faults   : Faults
  windLoad : Nat
  deriving DecidableEq, Repr

/-- The capstan command to the servo IC (R2): halt, or a speed, a direction and a multiplier 0, 1 or 7. -/
inductive Capstan where
  | halt
  | run (speed : Speed) (reverse : Bool) (multiplier : Nat)
  deriving DecidableEq, Repr

/-- The reel motor drive (R2, R60, R61): forward and reverse are the drive of a start burst's ON part. -/
inductive ReelDrive where
  | off | takeUpTension | supplyTension | forward | reverse | fullForward | fullReverse
  deriving DecidableEq, Repr

/-- The drive of the loading motor, or of the threading motor (R2). -/
inductive MotorDrive where
  | off
  /-- loading motor inward; threading motor forward -/
  | inward
  /-- loading motor outward; threading motor reverse -/
  | outward
  deriving DecidableEq, Repr

/-- The outputs of the part to the mechanism, the control track, the relay and the tuner module (R2, R42, R95, R167). -/
structure Outputs where
  capstan      : Capstan
  reel         : ReelDrive
  brake        : Bool
  recordEnable : Bool
  loading      : MotorDrive
  threading    : MotorDrive
  /-- the index-write strobe as driven on the last control-track pulse -/
  strobe       : Bool
  /-- the main power relay -/
  relay        : Bool
  /-- the divider last sent on the tuner write line since the module has been powered -/
  tunerWord    : Option Nat
  deriving DecidableEq, Repr

/-- The lines whose level the part reads at moments other than their change (chapter 10, Pins). -/
structure Pins where
  cassetteClosed : Bool
  tapeStart      : Bool
  tapeEnd        : Bool
  drumLock       : Bool
  speedSense     : SpeedCode
  synthLock      : Bool
  deriving DecidableEq, Repr

/-! ## Chapter 2: the Position Counter -/

/-- The two search kinds (R46) and the kind of a memory stop's ending (R41). -/
inductive SearchKind where
  | counter | index | memory
  deriving DecidableEq, Repr

/-- Search phases (R46). -/
inductive SearchPhase where
  | thread | wind | approach
  deriving DecidableEq, Repr

/-- The mode of a search with what it heads for (R46). -/
inductive SearchMode where
  | target (position : Int)
  | counting (marksLeft : Nat)
  deriving DecidableEq, Repr

/-- How a search ends (R52). -/
inductive SearchOutcome where
  | found | notFound | aborted
  deriving DecidableEq, Repr

/-- The search record (R46). -/
structure Search where
  /-- COUNTER or INDEX -/
  index     : Bool
  /-- the signed count of a SEARCH_INDEX, kept for its beginning from STOP (R51) -/
  count     : Int
  mode      : SearchMode
  direction : Option Direction
  phase     : SearchPhase
  /-- the end action: true PLAY, false STOP -/
  endPlay   : Bool
  rank      : Rank
  link      : Link
  deriving DecidableEq, Repr

/-- The last search ending (R36, R41, R52). -/
structure SearchEnding where
  kind    : SearchKind
  outcome : SearchOutcome
  counter : Int
  link    : Option Link
  deriving DecidableEq, Repr

/-- The Position Counter's record (R36). -/
structure Position where
  counter      : Int
  direction    : Direction
  trackPresent : Bool
  memoryStop   : Bool
  /-- the index list, in increasing order -/
  index        : List Int
  pendingMark  : Bool
  search       : Option Search
  lastEnding   : Option SearchEnding
  deriving DecidableEq, Repr

/-! ## Chapter 3: the Reel Monitor and the Tape Gauge -/

/-- The burst phase of the reel motor (R54, R60). -/
inductive Burst where
  | none
  /-- burst number 1..8; `on` is its ON part -/
  | bursting (number : Nat) (on : Bool)
  | full
  deriving DecidableEq, Repr

/-- The Reel Monitor's record (R54); intervals, instants and timeouts in milliseconds, rings oldest first. -/
structure ReelMonitor where
  supplyRing    : List Nat
  takeUpRing    : List Nat
  supplyRef     : Option Nat
  takeUpRef     : Option Nat
  ringDirection : Option Direction
  supplyTaken   : Nat
  supervised    : Option Reel
  /-- the timeout of the running stall timer, none while it is stopped -/
  stallTimer    : Option Nat
  burst         : Burst
  deriving DecidableEq, Repr

/-- The estimate states (R62). -/
inductive Estimate where
  | none | current | held
  deriving DecidableEq, Repr

/-- The Tape Gauge's record (R62); the class table lists the minutes of classes 0..7. -/
structure Gauge where
  classes     : List Nat
  active      : Option Nat
  ring        : List Nat
  entries     : Nat
  estimate    : Estimate
  fraction    : Option Nat
  remainingSp : Option Nat
  deriving DecidableEq, Repr

/-! ## Chapter 4: the Clock Unit -/

/-- The source of the clock (R74, R75). -/
inductive Source where
  | mains | crystal
  deriving DecidableEq, Repr

/-- The last broadcast verdict (R74). -/
inductive BroadcastVerdict where
  | none | notEligible | outOfRange | candidate | confirmed | applied | deferred
  deriving DecidableEq, Repr

/-- The candidate (R74, R86); its UTC instant in seconds since 1990-01-01 00:00:00 UTC. -/
structure Candidate where
  utc      : Nat
  offset   : Int
  identity : Nat
  elapsed  : Nat
  deriving DecidableEq, Repr

/-- The clock record (R74). -/
structure Clock where
  now        : DateTime
  subSecond  : Nat
  set        : Bool
  source     : Source
  elapsed    : Nat
  staged     : PerLink (Option Date)
  snapshot   : PerLink (Option DateTime)
  candidate  : Option Candidate
  correction : Option Int
  verdict    : BroadcastVerdict
  deriving DecidableEq, Repr

/-! ## Chapter 5: the tuner and the preset table -/

/-- The bands (R93). -/
inductive Band where
  | low | mid | high
  deriving DecidableEq, Repr

/-- One preset record (R91); the name as its display codes. -/
structure Preset where
  stored     : Bool
  divider    : Nat
  fine       : Int
  aft        : Bool
  skip       : Bool
  name       : List Nat
  identity   : Option Nat
  timeSource : Bool
  version    : Nat
  deriving DecidableEq, Repr

/-- An EMPTY record with an empty name and version 0 (R91). -/
def Preset.factory : Preset :=
  { stored := false, divider := 1658, fine := 0, aft := true, skip := false, name := [], identity := none,
    timeSource := false, version := 0 }

/-- The tuner holder (R94). -/
inductive TunerHolder where
  | none
  | viewUser (l : Link)
  | viewAuto (l : Link)
  | search (r : Rank) (l : Link)
  | timer
  deriving DecidableEq, Repr

/-- What the applied tuning came from (R94). -/
inductive TunerSource where
  | preset (n : Nat)
  | search
  | none
  deriving DecidableEq, Repr

/-- Lock states (R96); SETTLING carries its 50 ms. -/
inductive LockState where
  | off | settling | locked | lost
  deriving DecidableEq, Repr

/-- The phases of a station search (R104). -/
inductive StationPhase where
  | leave | seek | centre
  deriving DecidableEq, Repr

/-- A tuning as it stood, kept by a search for its ending (R104). -/
structure Tuning where
  source : TunerSource
  base   : Nat
  fine   : Int
  aft    : Bool
  deriving DecidableEq, Repr

/-- The station search record (R104). -/
structure StationSearch where
  /-- true STORE, false STATION -/
  storing     : Bool
  down        : Bool
  phase       : StationPhase
  divider     : Nat
  reading     : Option AftLine
  offset      : Int
  steps       : Nat
  stored      : Nat
  firstStored : Option Nat
  starting    : Option Tuning
  rank        : Rank
  link        : Link
  deriving DecidableEq, Repr

/-- How a station search ends (R107). -/
inductive StationOutcome where
  | found | notFound | exhausted | full | aborted
  deriving DecidableEq, Repr

/-- The last ending of a station search (R94, R107). -/
structure StationEnding where
  storing : Bool
  outcome : StationOutcome
  stored  : Nat
  divider : Nat
  deriving DecidableEq, Repr

/-- The Tuner Controller's record (R94). -/
structure Tuner where
  holder      : TunerHolder
  present     : Bool
  source      : TunerSource
  base        : Nat
  fine        : Int
  aft         : Bool
  correction  : Int
  divider     : Nat
  band        : Band
  stale       : Bool
  lock        : LockState
  retrySpent  : Bool
  search      : Option StationSearch
  lastEnding  : Option StationEnding
  lastChanged : Option Nat
  deriving DecidableEq, Repr

/-! ## Chapter 6: the Label Receiver -/

/-- Receiver states (R114). -/
inductive ReceiverState where
  | seekIdle | seekStart | collectLength | collect
  deriving DecidableEq, Repr

/-- Why the last packet ended (R114, R120). -/
inductive Termination where
  | none | complete | timeout | parity | overlong | unknownKind | badContent | aborted
  deriving DecidableEq, Repr

/-- The status of a PROG packet (R119). -/
inductive ProgStatus where
  | running | paused | pending | ended
  deriving DecidableEq, Repr

/-- A delivered packet, its fields as named values (R121). -/
inductive Packet where
  | prog (identity day month hour minute : Nat) (status : ProgStatus)
  | time (identity : Nat) (utc : DateTime) (offset : Int)
  deriving DecidableEq, Repr

/-- The packet under collection (R114): its length once known, and the content bytes received, oldest first. -/
structure Collecting where
  length : Option Nat
  bytes  : List SlicerByte
  deriving DecidableEq, Repr

/-- The Label Receiver's record (R114). -/
structure Receiver where
  state      : ReceiverState
  live       : Bool
  quietTimer : Bool
  gapTimer   : Bool
  collecting : Option Collecting
  lastReason : Termination
  labels     : List Packet
  lastQueued : Option Packet
  readOut    : PerLink (Option Packet)
  deriving DecidableEq, Repr

/-! ## Chapter 7: the event table -/

/-- Repeat kinds (R127). -/
inductive Repeat where
  | once | daily | weekdays | weekly
  deriving DecidableEq, Repr

/-- The date field of a slot or a work record (R127, R134). -/
inductive DateField where
  | absent
  | calendar (d : Date)
  | weekday (n : Nat)
  deriving DecidableEq, Repr

/-- The speed of a slot (R127). -/
inductive SlotSpeed where
  | sp | lp | ep | auto
  deriving DecidableEq, Repr

/-- Label control (R127): the label time is hour and minute. -/
inductive LabelControl where
  | off
  | on (time : Option (Nat × Nat))
  deriving DecidableEq, Repr

/-- The definition fields of a slot (R127). -/
structure EventDef where
  enabled : Bool
  rep     : Repeat
  date    : DateField
  start   : Nat
  stop    : Nat
  preset  : Nat
  speed   : SlotSpeed
  label   : LabelControl
  deriving DecidableEq, Repr

/-- Reasons of PARTIAL (R140). -/
inductive PartialReason where
  | lateStart | extensionLimit | yielded | tapeEnd | fault | power | reset
  deriving DecidableEq, Repr

/-- Reasons of MISSED (R140). -/
inductive MissedReason where
  | noCassette | noTab | tapeEnd | noPreset | fault | busy | labelAbsent | overlap | power | clockStep
  deriving DecidableEq, Repr

/-- Kind and reason of an outcome (R140). -/
inductive Verdict where
  | recorded
  | partly (reason : PartialReason)
  | missed (reason : MissedReason)
  | stoppedByUser
  deriving DecidableEq, Repr

/-- An outcome record (R140); `day` is the day number of the occurrence date (R77). -/
structure OutcomeRecord where
  verdict : Verdict
  day     : Nat
  speed   : Option Speed
  minutes : Nat
  deriving DecidableEq, Repr

/-- One slot (R127); the last served date as its day number (R77). -/
structure Slot where
  inUse      : Bool
  defn       : EventDef
  owner      : Option (Link × Rank)
  version    : Nat
  lastServed : Option Nat
  outcome    : Option OutcomeRecord
  conflict   : Bool
  deriving DecidableEq, Repr

/-- The definition of a free slot (R127). -/
def EventDef.free : EventDef :=
  { enabled := false, rep := .once, date := .absent, start := 0, stop := 60, preset := 1, speed := .auto, label := .off }

/-- A free slot with version 0 (R127). -/
def Slot.factory : Slot :=
  { inUse := false, defn := .free, owner := none, version := 0, lastServed := none, outcome := none, conflict := false }

/-! ## Chapter 8: the Timer Engine -/

/-- A due-list entry (R143): the date as its day number, the instants as epoch minutes. -/
structure DueEntry where
  slot  : Nat
  day   : Nat
  start : Nat
  stop  : Nat
  rank  : Rank
  deriving DecidableEq, Repr

/-- Phases of the current occurrence (R149). -/
inductive Phase where
  | watch | waiting | recording | labelPaused | ending
  deriving DecidableEq, Repr

/-- Label states (R149). -/
inductive LabelState where
  | none | matched | fallback
  deriving DecidableEq, Repr

/-- The partial reasons an occurrence may note (R149). -/
inductive Noted where
  | lateStart | power | tapeEnd | fault
  deriving DecidableEq, Repr

/-- The current occurrence (R149). The last six fields are the model's own: they hold what the rules ask the engine to
remember between two steps. -/
structure Occurrence where
  slot        : Nat
  day         : Nat
  start       : Nat
  stop        : Nat
  phase       : Phase
  speed       : Option Speed
  label       : LabelState
  labelsSeen  : Bool
  lastLabel   : Option DateTime
  actualStart : Option DateTime
  /-- recorded time in units of 1/600 s of the elapsed count -/
  recorded    : Nat
  noted       : Option Noted
  powerRaised : Bool
  silence     : Bool
  extension   : Option Nat
  /-- the takes have been made, or carried over in a handover (R7, R102) -/
  held        : Bool
  /-- the slot was deleted: the occurrence belongs to no slot (R138) -/
  orphan      : Bool
  /-- the start is to be judged, once an insertion in progress has ended (R152) -/
  startDue    : Bool
  /-- the start that is to be judged is a handover's (R158) -/
  handover    : Bool
  /-- the start's Record request has been sent (R156, R162) -/
  startSent   : Bool
  /-- a Record request waits for the recovery to park (R163) -/
  resumeDue   : Bool
  deriving DecidableEq, Repr

/-- The Timer Engine's record (R143). `judgeDue` is the model's own: a boundary or a rebuild has been taken and R150 is
to be judged, within this step where no occurrence is current outside HOLD. Under an occurrence it stands on, read by
nothing until the occurrence is gone (log entry 7). -/
structure Engine where
  mode        : Bool
  lock        : Bool
  due         : List DueEntry
  current     : Option Occurrence
  powerReturn : Bool
  judgeDue    : Bool
  deriving DecidableEq, Repr

/-! ## Chapter 9: power and store -/

/-- Power states (R167). -/
inductive PowerState where
  | hold | standby | on
  deriving DecidableEq, Repr

/-- A pending switch-off with its cause (R167). -/
inductive SwitchOff where
  | userOff (l : Link)
  | lock
  | timerReturn
  deriving DecidableEq, Repr

/-- Causes of a change of power state (R167). -/
inductive PowerCause where
  | request | timer | transportRequest | insertion | userOff | lock | timerReturn | mainsLoss | mainsRestore
  deriving DecidableEq, Repr

/-- The last change of power state (R167). -/
structure PowerChange where
  fromState : PowerState
  toState   : PowerState
  cause     : PowerCause
  deriving DecidableEq, Repr

/-- The Power Supervisor's record (R167). `coldPending` is the model's own: a cold start waits for the first presence of
mains (R174). -/
structure Power where
  state       : PowerState
  raised      : Bool
  pendingOff  : Option SwitchOff
  lastChange  : Option PowerChange
  coldPending : Bool
  deriving DecidableEq, Repr

/-- The store areas, in their fixed order (R175). -/
inductive Area where
  | presets | events | settings | classes
  deriving DecidableEq, Repr

/-- The frame rates of *system standard* (R178). -/
inductive Standard where
  | f25 | f30
  deriving DecidableEq, Repr

/-- The settings record (R178). -/
structure Settings where
  standard      : Standard
  /-- *mains frequency*: true 60 Hz -/
  mains60       : Bool
  timebase      : Source
  defaultClass  : Nat
  g100          : Nat
  autoRewind    : Bool
  autoPlay      : Bool
  indexWrite    : Bool
  autoClock     : Bool
  lead          : Nat
  labelLead     : Nat
  extension     : Nat
  fallbackSpeed : Speed
  manualSpeed   : Speed
  guideRelays   : Bool
  timerOn       : Bool
  deriving DecidableEq, Repr

/-- The defaults of R178. -/
def Settings.factory : Settings :=
  { standard := .f25, mains60 := false, timebase := .mains, defaultClass := 4, g100 := 1024, autoRewind := true,
    autoPlay := true, indexWrite := true, autoClock := true, lead := 2, labelLead := 10, extension := 60,
    fallbackSpeed := .lp, manualSpeed := .sp, guideRelays := true, timerOn := true }

/-- The factory minutes of the cassette classes (R63). -/
def factoryClasses : List Nat := [60, 90, 120, 150, 180, 210, 240, 300]

/-- The factory preset table and event table (R91, R127). -/
def factoryPresets : List Preset := List.replicate 60 Preset.factory
def factorySlots : List Slot := List.replicate 32 Slot.factory

/-- A copy of an area's working contents (R176). -/
inductive AreaCopy where
  | presets (t : List Preset)
  | events (t : List Slot)
  | settings (t : Settings)
  | classes (t : List Nat)
  deriving DecidableEq, Repr

/-- One area of the nonvolatile store: its contents, followed by their sum (R175). -/
structure Stored (α : Type) where
  copy : α
  sum  : Nat
  deriving DecidableEq, Repr

/-- The serial nonvolatile store (R175). -/
structure Nonvolatile where
  presets  : Stored (List Preset)
  events   : Stored (List Slot)
  settings : Stored Settings
  classes  : Stored (List Nat)
  deriving DecidableEq, Repr

/-- The Settings Store's record (R175); the writer carries the area and the copy being written. -/
structure Store where
  dirty    : AreaFlags
  failed   : AreaFlags
  writer   : Option AreaCopy
  last     : Option Area
  defaults : AreaFlags
  deriving DecidableEq, Repr

/-! ## Chapter 10: the ports -/

/-- The reply holder (R180). -/
structure ReplyHolder where
  refused : Bool
  data    : Arg
  deriving DecidableEq, Repr

/-- The read buffer (R180, R186). -/
structure ReadBuffer where
  code  : Code
  item  : Value
  words : List Arg
  deriving DecidableEq, Repr

/-- A frame in progress (R180): the bits shifted in since select fell, and their count. -/
structure FrameInProgress where
  bits  : Frame
  count : Nat
  deriving DecidableEq, Repr

/-- Origin of an event work record (R132). -/
inductive EventOrigin where
  | none | fetched | new
  deriving DecidableEq, Repr

/-- The event work record (R132), with the copies shown. -/
structure EventWork where
  origin          : EventOrigin
  slot            : Option Nat
  version         : Nat
  fetchedInUse    : Bool
  defn            : EventDef
  shownOwner      : Option (Link × Rank)
  shownLastServed : Option Nat
  shownOutcome    : Option OutcomeRecord
  shownConflict   : Bool
  deriving DecidableEq, Repr

/-- The preset work record (R109); `record` holds the fields of R91, its version unused. -/
structure PresetWork where
  fetched : Bool
  number  : Option Nat
  version : Nat
  record  : Preset
  deriving DecidableEq, Repr

/-- The initial preset work record (R109). -/
def PresetWork.initial : PresetWork :=
  { fetched := false, number := none, version := 0, record := .factory }

/-- One link port (R180). `outgoing` is what data out carries: the word of the last frame (R182), and 0, a line held low,
while the link is not live (R181). -/
structure Port where
  reply      : ReplyHolder
  pending    : KindSet
  mask       : KindSet
  attention  : Bool
  readBuffer : Option ReadBuffer
  frame      : Option FrameInProgress
  outgoing   : Frame
  eventWork  : EventWork
  presetWork : PresetWork
  deriving DecidableEq, Repr

/-! ## The whole part -/

/-- The state of the part: one record for each block, its pins, its outputs, the nonvolatile store it writes, the queue
of waiting commands, and the count of free values drawn. -/
structure State where
  transport  : Transport
  protection : Protection
  outputs    : Outputs
  pins       : Pins
  position   : Position
  reels      : ReelMonitor
  gauge      : Gauge
  clock      : Clock
  tuner      : Tuner
  presets    : List Preset
  receiver   : Receiver
  slots      : List Slot
  engine     : Engine
  power      : Power
  settings   : Settings
  store      : Store
  nv         : Nonvolatile
  ports      : PerLink Port
  /-- the commands that are waiting, first in, first out -/
  pending    : List Instr
  /-- the model's own: how many free values have been drawn (log entry 8) -/
  draws      : Nat
  deriving DecidableEq, Repr

/-! ## Reset -/

def Faults.none : Faults :=
  { threadJam := false, unthreadJam := false, ejectJam := false, reelStall := false, windOverload := false,
    drumFault := false }

/-- R1, after a cold start; EMPTY with no cassette. -/
def Transport.reset : Transport :=
  { state := .empty, intent := none, holder := .none, tab := .unknown, speed := .sp, recordSpeed := .sp,
    oneTouch := none, motion := .stopped, limit := .stopped, drum := .off }

/-- R1: the fault set empty, the accumulator 0. -/
def Protection.reset : Protection := { faults := .none, windLoad := 0 }

/-- R2, the row of EMPTY; relay off; nothing written to the tuner module. -/
def Outputs.reset : Outputs :=
  { capstan := .halt, reel := .off, brake := true, recordEnable := false, loading := .off, threading := .off,
    strobe := false, relay := false, tunerWord := none }

/-- The lines at reset (DESIGN CHOICE, log entry 6): no cassette, no sensor active, no lock, speed unknown. -/
def Pins.reset : Pins :=
  { cassetteClosed := false, tapeStart := false, tapeEnd := false, drumLock := false, speedSense := .unknown,
    synthLock := false }

/-- R36. -/
def Position.reset : Position :=
  { counter := 0, direction := .atRest, trackPresent := false, memoryStop := false, index := [], pendingMark := false,
    search := none, lastEnding := none }

/-- R54. -/
def ReelMonitor.reset : ReelMonitor :=
  { supplyRing := [], takeUpRing := [], supplyRef := none, takeUpRef := none, ringDirection := none, supplyTaken := 0,
    supervised := none, stallTimer := none, burst := .none }

/-- R62. -/
def Gauge.reset : Gauge :=
  { classes := factoryClasses, active := none, ring := [], entries := 0, estimate := .none, fraction := none,
    remainingSp := none }

/-- R74: 1990-01-01 00:00:00, UNSET. -/
def Clock.reset : Clock :=
  { now := ⟨⟨1990, 1, 1⟩, ⟨0, 0, 0⟩⟩, subSecond := 0, set := false, source := .mains, elapsed := 0,
    staged := ⟨none, none⟩, snapshot := ⟨none, none⟩, candidate := none, correction := none, verdict := .none }

/-- R94. -/
def Tuner.reset : Tuner :=
  { holder := .none, present := false, source := .none, base := 1658, fine := 0, aft := false, correction := 0,
    divider := 1658, band := .low, stale := false, lock := .off, retrySpent := false, search := none,
    lastEnding := none, lastChanged := none }

/-- R114. -/
def Receiver.reset : Receiver :=
  { state := .seekIdle, live := false, quietTimer := false, gapTimer := false, collecting := none, lastReason := .none,
    labels := [], lastQueued := none, readOut := ⟨none, none⟩ }

/-- R143: the mode is the setting *timer on*; the due list is empty because the clock is UNSET. -/
def Engine.reset : Engine :=
  { mode := true, lock := false, due := [], current := none, powerReturn := false, judgeDue := false }

/-- R167, with mains present (log entry 5). -/
def Power.reset : Power :=
  { state := .standby, raised := false, pendingOff := none, lastChange := none, coldPending := false }

def AreaFlags.none : AreaFlags := { presets := false, events := false, settings := false, classes := false }

/-- R175, every area loaded from a whole copy (log entry 5). -/
def Store.reset : Store :=
  { dirty := AreaFlags.none, failed := AreaFlags.none, writer := none, last := none, defaults := AreaFlags.none }

/-- The nonvolatile store holding the factory contents (DESIGN CHOICE, log entry 5), each with its sum (log entry 8). -/
def Nonvolatile.reset : Nonvolatile :=
  { presets := ⟨factoryPresets, 7740⟩, events := ⟨factorySlots, 2048⟩, settings := ⟨.factory, 87⟩,
    classes := ⟨factoryClasses, 1095⟩ }

/-- The blank definition of R133 with the date of the clock and the preset given. -/
def EventDef.blank (today : Date) (preset : Nat) : EventDef :=
  { enabled := true, rep := .once, date := .calendar today, start := 0, stop := 60, preset := preset, speed := .auto,
    label := .off }

/-- The initial event work record (R132): the blank definition, with the date and preset as R133 gives them. -/
def EventWork.initial (today : Date) (preset : Nat) : EventWork :=
  { origin := .none, slot := none, version := 0, fetchedInUse := false, defn := .blank today preset, shownOwner := none,
    shownLastServed := none, shownOutcome := none, shownConflict := false }

/-- The initial state of a port (R180), its event work record as given. -/
def Port.initial (work : EventWork) : Port :=
  { reply := ⟨false, 0⟩, pending := 0, mask := 0, attention := false, readBuffer := none, frame := none, outgoing := 0,
    eventWork := work, presetWork := .initial }

/-- The part right after a cold start with mains present, no cassette, and a store that holds the factory contents
(log entry 5). -/
def State.reset : State :=
  { transport := .reset, protection := .reset, outputs := .reset, pins := .reset, position := .reset, reels := .reset,
    gauge := .reset, clock := .reset, tuner := .reset, presets := factoryPresets, receiver := .reset,
    slots := factorySlots, engine := .reset, power := .reset, settings := .factory, store := .reset, nv := .reset,
    ports := ⟨.initial (.initial ⟨1990, 1, 1⟩ 1), .initial (.initial ⟨1990, 1, 1⟩ 1)⟩, pending := [], draws := 0 }

end Sys2Proof.Machine
end

