-- ==== Sys2Proof/Machine/Ops.lean ====
section
/-!
DEFINITION. The named operations over the state: one update for each record, what a link sees (R181, R187, R188), the
marking of store areas (R175), and the ring and set operations the chapters share.
-/

namespace Sys2Proof.Machine

/-! ## One update for each record -/

namespace State

/-- Update of the record `transport`. -/
def modTransport (f : Transport → Transport) (s : State) : State := { s with transport := f s.transport }

/-- Update of the record `protection`. -/
def modProtection (f : Protection → Protection) (s : State) : State := { s with protection := f s.protection }

/-- Update of the record `outputs`. -/
def modOutputs (f : Outputs → Outputs) (s : State) : State := { s with outputs := f s.outputs }

/-- Update of the record `pins`. -/
def modPins (f : Pins → Pins) (s : State) : State := { s with pins := f s.pins }

/-- Update of the record `position`. -/
def modPosition (f : Position → Position) (s : State) : State := { s with position := f s.position }

/-- Update of the record `reels`. -/
def modReels (f : ReelMonitor → ReelMonitor) (s : State) : State := { s with reels := f s.reels }

/-- Update of the record `gauge`. -/
def modGauge (f : Gauge → Gauge) (s : State) : State := { s with gauge := f s.gauge }

/-- Update of the record `clock`. -/
def modClock (f : Clock → Clock) (s : State) : State := { s with clock := f s.clock }

/-- Update of the record `tuner`. -/
def modTuner (f : Tuner → Tuner) (s : State) : State := { s with tuner := f s.tuner }

/-- Update of the record `presets`. -/
def modPresets (f : List Preset → List Preset) (s : State) : State := { s with presets := f s.presets }

/-- Update of the record `receiver`. -/
def modReceiver (f : Receiver → Receiver) (s : State) : State := { s with receiver := f s.receiver }

/-- Update of the record `slots`. -/
def modSlots (f : List Slot → List Slot) (s : State) : State := { s with slots := f s.slots }

/-- Update of the record `engine`. -/
def modEngine (f : Engine → Engine) (s : State) : State := { s with engine := f s.engine }

/-- Update of the record `power`. -/
def modPower (f : Power → Power) (s : State) : State := { s with power := f s.power }

/-- Update of the record `settings`. -/
def modSettings (f : Settings → Settings) (s : State) : State := { s with settings := f s.settings }

/-- Update of the record `store`. -/
def modStore (f : Store → Store) (s : State) : State := { s with store := f s.store }

/-- Update of the record `nv`. -/
def modNv (f : Nonvolatile → Nonvolatile) (s : State) : State := { s with nv := f s.nv }

/-- Update of the record `ports`. -/
def modPorts (f : PerLink Port → PerLink Port) (s : State) : State := { s with ports := f s.ports }

end State

/-! ## Links -/

/-- The value of link `l`. -/
def PerLink.get {α : Type} (x : PerLink α) : Link → α
  | .p => x.p
  | .g => x.g

/-- The value of link `l` replaced. -/
def PerLink.put {α : Type} (x : PerLink α) (l : Link) (v : α) : PerLink α :=
  match l with
  | .p => { x with p := v }
  | .g => { x with g := v }

/-- The port of link `l`. -/
def State.port (s : State) (l : Link) : Port := s.ports.get l

/-- Update of the port of link `l`. -/
def State.modPort (l : Link) (f : Port → Port) (s : State) : State :=
  s.modPorts fun ps => ps.put l (f (ps.get l))

/-- Which links are live in a power state (R181). -/
def liveIn : PowerState → Link → Bool
  | .hold, _ => false
  | .standby, .p => true
  | .standby, .g => false
  | .on, _ => true

/-- Whether link `l` is live (R181). -/
def State.live (s : State) (l : Link) : Bool := liveIn s.power.state l

/-- The bit number of an event kind (R187). -/
def Kind.bit : Kind → Nat
  | .transport => 0 | .fault => 1 | .cassette => 2 | .tapeEdge => 3 | .searchEnd => 4 | .gauge => 5
  | .clock => 6 | .tuner => 7 | .stationSearchEnd => 8 | .label => 9 | .eventTable => 10 | .timerStart => 11
  | .timerEnd => 12 | .timerState => 13 | .power => 14 | .store => 15 | .linkError => 16 | .aftLimit => 17

/-- The set of one kind (R187). -/
def Kind.single (k : Kind) : KindSet := 1#18 <<< k.bit

/-- The kind joins a pending set (R187). -/
def Port.addKind (k : Kind) (p : Port) : Port := { p with pending := p.pending ||| k.single }

/-- Puts a kind into the pending set of one link, if it is live. -/
def raiseOn (l : Link) (k : Kind) (s : State) : State :=
  if s.live l then s.modPort l (Port.addKind k) else s

/-- Raises a kind: it enters the pending set of every link that is live at that moment (R187). -/
def raise (k : Kind) (s : State) : State := raiseOn .g k (raiseOn .p k s)

/-- Raises a kind when a condition holds. -/
def raiseIf (c : Bool) (k : Kind) (s : State) : State := if c then raise k s else s

/-- Whether mains is present and main power is ON (R167). -/
def State.isOn (s : State) : Bool := s.power.state == .on

/-- Whether the part is in HOLD (R167). -/
def State.inHold (s : State) : Bool := s.power.state == .hold

/-! ## Store areas -/

/-- The flag of one area replaced. -/
def putFlag (a : Area) (v : Bool) (f : AreaFlags) : AreaFlags :=
  match a with
  | .presets => { f with presets := v }
  | .events => { f with events := v }
  | .settings => { f with settings := v }
  | .classes => { f with classes := v }

/-- The flag of one area. -/
def flagOf (f : AreaFlags) : Area → Bool
  | .presets => f.presets
  | .events => f.events
  | .settings => f.settings
  | .classes => f.classes

/-- A change to an area's working copy marks the area dirty (R175). -/
def markDirty (a : Area) (s : State) : State :=
  s.modStore fun t => { t with dirty := putFlag a true t.dirty }

/-! ## Rings -/

/-- The newest entry joins a ring of at most `n`; from a full ring the oldest leaves (R55, R69). -/
def pushRing (n : Nat) (x : Nat) (ring : List Nat) : List Nat :=
  (if n ≤ ring.length then ring.drop (ring.length + 1 - n) else ring) ++ [x]

/-- The sum of a list. -/
def total (xs : List Nat) : Nat := xs.foldl (· + ·) 0

/-- An integer held within two bounds (saturation, R100). -/
def saturate (lo hi x : Int) : Int := if x < lo then lo else if hi < x then hi else x

/-- A number clamped to the nearer bound (R178). -/
def clamp (lo hi x : Nat) : Nat := if x < lo then lo else if hi < x then hi else x

/-! ## Frame rate -/

/-- F, frames per second (00_scope.md, Time and dates). -/
def Standard.frames : Standard → Nat
  | .f25 => 25
  | .f30 => 30

/-- F as the setting *system standard* gives it. -/
def State.frameRate (s : State) : Int := (s.settings.standard.frames : Int)

/-- The bound of the counter's range, 36,000·F − 1 (R36). -/
def State.counterBound (s : State) : Int := 36000 * s.frameRate - 1

end Sys2Proof.Machine
end

