-- ==== Sys2Proof/Machine/Calendar.lean ====
section
/-!
DEFINITION. Calendar arithmetic (R76, R77) and the two instants the part counts in: epoch minutes and seconds.
-/

namespace Sys2Proof.Machine

/-- Leap years over 1990..2089 are the years divisible by 4 (R76). -/
def isLeap (year : Nat) : Bool := year % 4 == 0

/-- The length of a month (R76). -/
def monthLength (year month : Nat) : Nat :=
  match month with
  | 2 => if isLeap year then 29 else 28
  | 4 | 6 | 9 | 11 => 30
  | _ => 31

/-- The days of the whole months before `month` in its year (R77). -/
def daysBeforeMonth (year : Nat) : Nat → Nat
  | 0 => 0
  | 1 => 0
  | m + 1 => daysBeforeMonth year m + monthLength year m

/-- The leap years among the `n` years from 1990: 1992 is the first. -/
def leapsFrom1990 (n : Nat) : Nat := (n + 1) / 4

/-- The day number of a date: whole days since 1990-01-01 (R77). -/
def dayNumber (d : Date) : Nat :=
  365 * (d.year - 1990) + leapsFrom1990 (d.year - 1990) + daysBeforeMonth d.year d.month + (d.day - 1)

/-- The weekday of a day number, Monday 0 through Sunday 6 (R77). -/
def weekdayOf (day : Nat) : Nat := day % 7

/-- The month and day of the `n`-th day of a year, counted from `month`; `fuel` months are left to look at. -/
def monthAndDay (year : Nat) : (fuel month n : Nat) → Nat × Nat
  | 0, month, n => (month, n + 1)
  | fuel + 1, month, n =>
    if n < monthLength year month then (month, n + 1)
    else monthAndDay year fuel (month + 1) (n - monthLength year month)

/-- The year offset and the day within the year of day `r` of a four-year block that begins with 1990. -/
def yearInBlock (r : Nat) : Nat × Nat :=
  if r < 365 then (0, r) else if r < 730 then (1, r - 365) else if r < 1096 then (2, r - 730) else (3, r - 1096)

/-- The date of a day number. -/
def dateOf (day : Nat) : Date :=
  let inBlock := yearInBlock (day % 1461)
  let year := 1990 + 4 * (day / 1461) + inBlock.1
  let md := monthAndDay year 11 1 inBlock.2
  { year := year, month := md.1, day := md.2 }

/-- Whether a date is one of the clock's range (00_scope.md, R80). -/
def Date.valid (d : Date) : Bool :=
  decide (1990 ≤ d.year ∧ d.year ≤ 2089 ∧ 1 ≤ d.month ∧ d.month ≤ 12 ∧ 1 ≤ d.day ∧ d.day ≤ monthLength d.year d.month)

/-- Minute of day. -/
def Time.minuteOfDay (t : Time) : Nat := t.hour * 60 + t.minute

/-- The epoch minute (R77). -/
def epochMinute (x : DateTime) : Nat := dayNumber x.date * 1440 + x.time.minuteOfDay

/-- Seconds since 1990-01-01 00:00:00. -/
def epochSecond (x : DateTime) : Nat := epochMinute x * 60 + x.time.second

/-- The date and time of a count of seconds since 1990-01-01 00:00:00. -/
def dateTimeOf (seconds : Nat) : DateTime :=
  let inDay := seconds % 86400
  { date := dateOf (seconds / 86400), time := ⟨inDay / 3600, inDay % 3600 / 60, inDay % 60⟩ }

/-- The last second of the clock's range, 2089-12-31 23:59:59. -/
def lastSecond : Nat := Config.calendarDays * 86400 - 1

/-- The day after a date, month and year carried (R76). -/
def nextDay (d : Date) : Date :=
  if d.day < monthLength d.year d.month then { d with day := d.day + 1 }
  else if d.month < 12 then { d with month := d.month + 1, day := 1 }
  else { year := d.year + 1, month := 1, day := 1 }

/-- One second on, the carry running upward through the fields (R76). -/
def nextSecond (x : DateTime) : DateTime :=
  if x.time.second < 59 then { x with time := { x.time with second := x.time.second + 1 } }
  else if x.time.minute < 59 then { x with time := { x.time with minute := x.time.minute + 1, second := 0 } }
  else if x.time.hour < 23 then { x with time := ⟨x.time.hour + 1, 0, 0⟩ }
  else { date := nextDay x.date, time := ⟨0, 0, 0⟩ }

/-- The instant at which the clock holds (R76). -/
def lastInstant : DateTime := ⟨⟨2089, 12, 31⟩, ⟨23, 59, 59⟩⟩

/-- The present epoch minute of the part's clock. -/
def State.now (s : State) : Nat := epochMinute s.clock.now

/-- The day number of the part's clock. -/
def State.today (s : State) : Nat := dayNumber s.clock.now.date

end Sys2Proof.Machine
end

