-- ==== Sys2Proof/Machine/Operands.lean ====
section
/-!
DEFINITION. Every operand form of a request (R186): the fields packed in a 24-bit argument or a 20-bit value, and the
packing of the parts that a READ returns.
-/

namespace Sys2Proof.Machine

/-- `n` bits of a number from bit `lo` up. -/
def bitsAt (x lo n : Nat) : Nat := x / 2 ^ lo % 2 ^ n

/-! ## Arguments and values -/

/-- A date of three fields: year less 1990 in 7 bits, month 4, day 5; none when a bit above is not 0. -/
def dateFields (x : Nat) : Option Date :=
  if x < 2 ^ 16 then some ⟨1990 + bitsAt x 9 7, bitsAt x 5 4, bitsAt x 0 5⟩ else none

/-- A time of three fields: hour 5 bits, minute 6, second 6 (SET_TIME). -/
def timeFields (x : Nat) : Option Time :=
  if x < 2 ^ 17 then some ⟨bitsAt x 12 5, bitsAt x 6 6, bitsAt x 0 6⟩ else none

/-- SET_CASSETTE_CLASS: class 3 bits, minutes 9 bits. -/
def classFields (x : Nat) : Option (Nat × Nat) :=
  if x < 2 ^ 12 then some (bitsAt x 9 3, bitsAt x 0 9) else none

/-- SEARCH_COUNTER: end action 1 bit (0 STOP, 1 PLAY), target 22 bits signed. -/
def searchCounterFields (arg : Arg) : Option (Bool × Int) :=
  if arg.toNat < 2 ^ 23 then some (arg.getLsbD 22, (arg.extractLsb' 0 22).toInt) else none

/-- The event label control (field 8): a form of 2 bits, hour 5 bits, minute 6 bits. -/
def labelFields (x : Nat) : Option LabelControl :=
  if x < 2 ^ 13 then
    let hour := bitsAt x 6 5
    let minute := bitsAt x 0 6
    match bitsAt x 11 2 with
    | 0 => if hour = 0 ∧ minute = 0 then some .off else none
    | 1 => if hour = 0 ∧ minute = 0 then some (.on none) else none
    | 2 => if hour < 24 ∧ minute < 60 then some (.on (some (hour, minute))) else none
    | _ => none
  else none

/-- The preset name character (field 6): position 3 bits, code 7 bits. -/
def nameFields (x : Nat) : Option (Nat × Nat) :=
  if x < 2 ^ 10 then some (bitsAt x 7 3, bitsAt x 0 7) else none

/-- A flag or a two-valued field: 0 or 1. -/
def flagField (x : Nat) : Option Bool :=
  match x with
  | 0 => some false
  | 1 => some true
  | _ => none

/-- A coded speed: 0 SP, 1 LP, 2 EP, 3 AUTO (R134). -/
def slotSpeedField (x : Nat) : Option SlotSpeed :=
  match x with
  | 0 => some .sp
  | 1 => some .lp
  | 2 => some .ep
  | 3 => some .auto
  | _ => none

/-- A coded repeat kind (R134). -/
def repeatField (x : Nat) : Option Repeat :=
  match x with
  | 0 => some .once
  | 1 => some .daily
  | 2 => some .weekdays
  | 3 => some .weekly
  | _ => none

/-- The divider of a frequency in kHz: to the nearest, a half taken upward; none outside 44,000..870,000 (R93). -/
def dividerOf (kHz : Nat) : Option Nat :=
  if 44000 ≤ kHz ∧ kHz ≤ 870000 then some ((kHz + 38900 + 25) / 50) else none

/-- The frequency of a divider in kHz (R93). -/
def frequencyOf (n : Nat) : Nat := 50 * n - 38900

/-- The band of a divider (R93). -/
def bandOf (n : Nat) : Band := if n < 3978 then .low else if n < 9778 then .mid else .high

/-! ## Read parts -/

/-- A field of a read part: how many bits it takes, and its bits as a number. -/
structure Field where
  width : Nat
  bits  : Nat
  deriving DecidableEq, Repr

/-- An unsigned field. -/
def num (width n : Nat) : Field := ⟨width, n % 2 ^ width⟩

/-- A signed field, in two's complement (R186). -/
def sig (width : Nat) (x : Int) : Field := ⟨width, (x % (2 ^ width : Nat)).toNat⟩

/-- A flag, 1 when it holds (log entry 9). -/
def flag (b : Bool) : Field := ⟨1, if b then 1 else 0⟩

/-- A field that may be absent: one presence bit, then its fields, zeros while it is absent (R186, log entry 9). -/
def opt {α : Type} (x : Option α) (blank : α) (f : α → List Field) : List Field :=
  match x with
  | some v => ⟨1, 1⟩ :: f v
  | none => ⟨1, 0⟩ :: (f blank).map fun q => { q with bits := 0 }

/-- The bits of a part as one number, and how many they are: the first field most significant (R186). -/
def joinFields (fs : List Field) : Nat × Nat :=
  fs.foldl (fun acc q => (acc.1 * 2 ^ q.width + q.bits % 2 ^ q.width, acc.2 + q.width)) (0, 0)

/-- Words 0, 1 and on of a part of `n` words that has been left-justified in `n` words. -/
def wordsOf (x : Nat) : Nat → List Arg
  | 0 => []
  | n + 1 => BitVec.ofNat 24 (x / 2 ^ (24 * n)) :: wordsOf x n

/-- The packed part: from the most significant bit of word 0 onward, unused bits 0 (R186). -/
def packPart (fs : List Field) : List Arg :=
  let joined := joinFields fs
  let n := (joined.2 + 23) / 24
  wordsOf (joined.1 * 2 ^ (24 * n - joined.2)) n

/-- A date in a read part: year as an offset in 7 bits, month 4, day 5. -/
def dateField (d : Date) : List Field := [num 7 (d.year - 1990), num 4 d.month, num 5 d.day]

/-- A time in a read part: hour 5, minute 6, second 6. -/
def timeField (t : Time) : List Field := [num 5 t.hour, num 6 t.minute, num 6 t.second]

/-- A clock time in a read part. -/
def dateTimeField (x : DateTime) : List Field := dateField x.date ++ timeField x.time

/-- A date held as its day number. -/
def dayField (day : Nat) : List Field := dateField (dateOf day)

end Sys2Proof.Machine
end

