-- ==== Sys2Proof/Machine/Codes.lean ====
section
/-!
DEFINITION. The codes of the enumerations a READ returns: each coded by its listed order from 0 (R186), and the numbers
of the refusal codes (R184).
-/

namespace Sys2Proof.Machine

/-- The refusal codes 1..17 (R184). -/
def Refuse.code : Refuse → Nat
  | .badRequest => 1 | .badArg => 2 | .rank => 3 | .locked => 4 | .busy => 5 | .wrongState => 6 | .noCassette => 7
  | .noTab => 8 | .fault => 9 | .stale => 10 | .full => 11 | .emptySlot => 12 | .clockUnset => 13 | .tapeEnd => 14
  | .notOn => 15 | .noPreset => 16 | .past => 17

/-- The transport state codes 0..15 (R1). -/
def TState.code : TState → Nat
  | .empty => 0 | .inserting => 1 | .parked => 2 | .threading => 3 | .stop => 4 | .play => 5 | .still => 6
  | .record => 7 | .recPause => 8 | .cue => 9 | .review => 10 | .fwind => 11 | .rwind => 12 | .unthreading => 13
  | .ejecting => 14 | .fault => 15

/-- The intents in the order of R1, none last. -/
def intentCode : Option Intent → Nat
  | some .play => 0 | some (.record _) => 1 | some .cue => 2 | some .review => 3 | some .fwind => 4
  | some .rwind => 5 | some .stop => 6 | some .parked => 7 | some .eject => 8 | none => 9

def linkCode : Link → Nat
  | .p => 0 | .g => 1

/-- Link P, G or none. -/
def linkOrNone : Option Link → Nat
  | some l => linkCode l
  | none => 2

/-- 0 user, 1 automatic, as the rank bit and the link status item have them (R183, R189). -/
def rankCode : Rank → Nat
  | .user => 0 | .automatic => 1

def Holder.kindCode : Holder → Nat
  | .none => 0 | .timer => 1 | .user _ => 2 | .auto _ => 3

def Holder.link? : Holder → Option Link
  | .user l => some l
  | .auto l => some l
  | _ => .none

def TabStatus.code : TabStatus → Nat
  | .present => 0 | .absent => 1 | .unknown => 2

def Speed.code : Speed → Nat
  | .sp => 0 | .lp => 1 | .ep => 2

def SearchKind.code : SearchKind → Nat
  | .counter => 0 | .index => 1 | .memory => 2

def SearchPhase.code : SearchPhase → Nat
  | .thread => 0 | .wind => 1 | .approach => 2

def SearchOutcome.code : SearchOutcome → Nat
  | .found => 0 | .notFound => 1 | .aborted => 2

def Estimate.code : Estimate → Nat
  | .none => 0 | .current => 1 | .held => 2

def Source.code : Source → Nat
  | .mains => 0 | .crystal => 1

def BroadcastVerdict.code : BroadcastVerdict → Nat
  | .none => 0 | .notEligible => 1 | .outOfRange => 2 | .candidate => 3 | .confirmed => 4 | .applied => 5
  | .deferred => 6

def Band.code : Band → Nat
  | .low => 0 | .mid => 1 | .high => 2

def TunerHolder.kindCode : TunerHolder → Nat
  | .none => 0 | .viewUser _ => 1 | .viewAuto _ => 2 | .search _ _ => 3 | .timer => 4

def TunerHolder.link? : TunerHolder → Option Link
  | .viewUser l => some l
  | .viewAuto l => some l
  | .search _ l => some l
  | _ => .none

def TunerHolder.searchRank? : TunerHolder → Option Rank
  | .search r _ => some r
  | _ => .none

def TunerSource.code : TunerSource → Nat
  | .preset _ => 0 | .search => 1 | .none => 2

def TunerSource.preset? : TunerSource → Option Nat
  | .preset n => some n
  | _ => .none

def LockState.code : LockState → Nat
  | .off => 0 | .settling => 1 | .locked => 2 | .lost => 3

def StationPhase.code : StationPhase → Nat
  | .leave => 0 | .seek => 1 | .centre => 2

def StationOutcome.code : StationOutcome → Nat
  | .found => 0 | .notFound => 1 | .exhausted => 2 | .full => 3 | .aborted => 4

def ReceiverState.code : ReceiverState → Nat
  | .seekIdle => 0 | .seekStart => 1 | .collectLength => 2 | .collect => 3

def Termination.code : Termination → Nat
  | .none => 0 | .complete => 1 | .timeout => 2 | .parity => 3 | .overlong => 4 | .unknownKind => 5
  | .badContent => 6 | .aborted => 7

def ProgStatus.code : ProgStatus → Nat
  | .running => 0 | .paused => 1 | .pending => 2 | .ended => 3

def Repeat.code : Repeat → Nat
  | .once => 0 | .daily => 1 | .weekdays => 2 | .weekly => 3

def SlotSpeed.code : SlotSpeed → Nat
  | .sp => 0 | .lp => 1 | .ep => 2 | .auto => 3

def EventOrigin.code : EventOrigin → Nat
  | .none => 0 | .fetched => 1 | .new => 2

def PartialReason.code : PartialReason → Nat
  | .lateStart => 0 | .extensionLimit => 1 | .yielded => 2 | .tapeEnd => 3 | .fault => 4 | .power => 5 | .reset => 6

def MissedReason.code : MissedReason → Nat
  | .noCassette => 0 | .noTab => 1 | .tapeEnd => 2 | .noPreset => 3 | .fault => 4 | .busy => 5 | .labelAbsent => 6
  | .overlap => 7 | .power => 8 | .clockStep => 9

def Verdict.code : Verdict → Nat
  | .recorded => 0 | .partly _ => 1 | .missed _ => 2 | .stoppedByUser => 3

/-- The code of the reason within its kind; absent for RECORDED and STOPPED_BY_USER (R140). -/
def Verdict.reason? : Verdict → Option Nat
  | .partly r => some r.code
  | .missed r => some r.code
  | _ => .none

def Phase.code : Phase → Nat
  | .watch => 0 | .waiting => 1 | .recording => 2 | .labelPaused => 3 | .ending => 4

def LabelState.code : LabelState → Nat
  | .none => 0 | .matched => 1 | .fallback => 2

def Noted.code : Noted → Nat
  | .lateStart => 0 | .power => 1 | .tapeEnd => 2 | .fault => 3

def PowerState.code : PowerState → Nat
  | .hold => 0 | .standby => 1 | .on => 2

def SwitchOff.code : SwitchOff → Nat
  | .userOff _ => 0 | .lock => 1 | .timerReturn => 2

def PowerCause.code : PowerCause → Nat
  | .request => 0 | .timer => 1 | .transportRequest => 2 | .insertion => 3 | .userOff => 4 | .lock => 5
  | .timerReturn => 6 | .mainsLoss => 7 | .mainsRestore => 8

def Area.code : Area → Nat
  | .presets => 0 | .events => 1 | .settings => 2 | .classes => 3

def Standard.code : Standard → Nat
  | .f25 => 0 | .f30 => 1

/-- The factor of a tape speed (00_scope.md, Tape speeds). -/
def Speed.factor : Speed → Nat
  | .sp => 1 | .lp => 2 | .ep => 3

/-- A coded speed of a setting: 0 SP, 1 LP, 2 EP (R178). -/
def speedOfCode : Nat → Speed
  | 0 => .sp
  | 1 => .lp
  | _ => .ep

end Sys2Proof.Machine
end

