-- ==== Sys2Proof/Machine/Flags.lean ====
section
/-!
DEFINITION. The flags the part computes from its state: the fault set's tests (R29, R30), the sensor in the direction of
a target (R27), the attention line (R188), the summary byte (R185), and the source of the clock (R75).
-/

namespace Sys2Proof.Machine

/-! ## The latched fault set -/

/-- The set holds some fault (summary bit 5, R185). -/
def Faults.any (f : Faults) : Bool :=
  f.threadJam || f.unthreadJam || f.ejectJam || f.reelStall || f.windOverload || f.drumFault

/-- The set holds a jam fault (R29). -/
def Faults.jam (f : Faults) : Bool := f.threadJam || f.unthreadJam || f.ejectJam

/-- Whether a kind is present. -/
def Faults.has (f : Faults) : FaultKind → Bool
  | .threadJam => f.threadJam
  | .unthreadJam => f.unthreadJam
  | .ejectJam => f.ejectJam
  | .reelStall => f.reelStall
  | .windOverload => f.windOverload
  | .drumFault => f.drumFault

/-- A kind latched (R29). -/
def Faults.latch (f : Faults) : FaultKind → Faults
  | .threadJam => { f with threadJam := true }
  | .unthreadJam => { f with unthreadJam := true }
  | .ejectJam => { f with ejectJam := true }
  | .reelStall => { f with reelStall := true }
  | .windOverload => { f with windOverload := true }
  | .drumFault => { f with drumFault := true }

/-- Whether the latched protective faults refuse what leads to state `t` (R30). PAUSE leads to PLAY, STILL, RECORD or
REC_PAUSE, which one pair of faults blocks alike. -/
def Faults.blocks (f : Faults) : TState → Bool
  | .play | .record | .still | .recPause => f.reelStall || f.drumFault
  | .cue | .review => f.reelStall || f.drumFault || f.windOverload
  | .fwind | .rwind => f.reelStall || f.windOverload
  | _ => false

/-- Whether the tape sensor in the direction of state `t` is active (R27). -/
def Pins.edgeToward (p : Pins) : TState → Bool
  | .play | .record | .cue | .fwind => p.tapeEnd
  | .review | .rwind => p.tapeStart
  | _ => false

/-! ## Transport states -/

/-- The running states (R1). -/
def TState.running : TState → Bool
  | .play | .still | .record | .recPause | .cue | .review | .fwind | .rwind => true
  | _ => false

/-- The drum states (R1). -/
def TState.drumState : TState → Bool
  | .play | .still | .record | .recPause | .cue | .review => true
  | _ => false

/-- The reading states that take the speed-sense code (R3). -/
def TState.reading : TState → Bool
  | .play | .still | .cue | .review => true
  | _ => false

/-- The direction of motion of a state (R37, R54). -/
def TState.motion : TState → Direction
  | .play | .record | .cue | .fwind => .forward
  | .review | .rwind => .reverse
  | _ => .atRest

/-- PARKED, EMPTY or FAULT: where a pending switch-off may be completed and an ending's releases are sent (R159, R171). -/
def TState.resting : TState → Bool
  | .parked | .empty | .fault => true
  | _ => false

/-- A code of unknown is taken as SP (R3). -/
def speedOfSense : SpeedCode → Speed
  | .sp => .sp
  | .lp => .lp
  | .ep => .ep
  | .unknown => .sp

/-! ## Attention and summary -/

/-- The attention line: asserted exactly when the link is live and its pending set holds an unmasked kind (R188). -/
def attentionOf (live : Bool) (p : Port) : Bool := live && (p.pending &&& ~~~p.mask) != 0

/-- Both ports judge their lines (R188). -/
def judgeAttention (s : State) : State :=
  s.modPorts fun ps =>
    { p := { ps.p with attention := attentionOf (s.live .p) ps.p }
      g := { ps.g with attention := attentionOf (s.live .g) ps.g } }

/-- The summary byte (R185). -/
def summaryByte (l : Link) (s : State) : BitVec 8 :=
  BitVec.ofBool (s.port l).attention ++ (BitVec.ofBool (s.port l).reply.refused ++
    (BitVec.ofBool s.protection.faults.any ++ (BitVec.ofBool s.engine.current.isSome ++
      BitVec.ofNat 4 s.transport.state.code)))

/-- The outgoing word: the summary byte, then the 24 bits of the reply holder's data (R182). -/
def outgoingWord (l : Link) (s : State) : Frame := summaryByte l s ++ (s.port l).reply.data

/-! ## The source of the clock -/

/-- MAINS when *timebase* is MAINS and mains is present, that is outside HOLD; CRYSTAL otherwise (R75). -/
def chosenSource (s : State) : Source :=
  if s.settings.timebase == .mains && !s.inHold then .mains else .crystal

/-- The Clock Unit chooses its source again (R75). -/
def chooseSource (s : State) : State := s.modClock fun c => { c with source := chosenSource s }

end Sys2Proof.Machine
end

