-- ==== Sys2Proof/Machine/TapeGauge.lean ====
section
/-!
DEFINITION. The Tape Gauge (R62 to R73): the fraction, its publication, the estimate states and the active class.
-/

namespace Sys2Proof.Machine

/-- The revolution period of a ring: the sum of its intervals, saturating at 65535 ms (R57). -/
def revolution (ring : List Nat) : Nat := min (total ring) 65535

/-- A period is valid while the ring holds 6 intervals (R57). -/
def validRing (ring : List Nat) : Bool := ring.length == 6

/-- The fraction of tape remaining in ten-thousandths, from the shell ratio and the two periods (R68). The numerator's
subtraction is cut off at 0. -/
def fractionOf (g100 ts tt : Nat) : Nat :=
  let a := ts * ts
  let b := tt * tt
  let p := g100 * a - 100 * b
  let q := (g100 - 100) * (a + b)
  min ((10000 * p + q / 2) / q) 10000

/-- The total minutes of the active class, absent with it (R63, R72). -/
def Gauge.activeMinutes (g : Gauge) : Option Nat := g.active.map fun n => g.classes.getD n 0

/-- The remaining time at SP in seconds for a fraction (R70). With no class active, as after a restore into FAULT that found
no cassette, no rule gives the total minutes: the result is a free value within the range of R70 (log entry 52). -/
def Gauge.remainingFor (g : Gauge) (fraction : Nat) : Nat :=
  match g.activeMinutes with
  | some minutes => minutes * 60 * fraction / 10000
  | none => min (Config.unclassedRemaining fraction) Config.maxRemainingSp

/-- The computation ring emptied (R69). -/
def Gauge.emptied (g : Gauge) : Gauge := { g with ring := [], entries := 0 }

/-- The estimate cleared to NONE, its values absent (R65, R66, R71). -/
def Gauge.cleared (g : Gauge) : Gauge :=
  { g.emptied with estimate := .none, fraction := none, remainingSp := none }

/-- A fraction joins the ring; at every fourth entry since the ring was emptied the estimate is published (R69). -/
def Gauge.enter (f : Nat) (g : Gauge) : Gauge :=
  let ring := pushRing 4 f g.ring
  let entries := (g.entries + 1) % 4
  if entries = 0 then
    let published := total ring / 4
    { g with ring := ring, entries := 0, estimate := .current, fraction := some published,
             remainingSp := some (g.remainingFor published) }
  else { g with ring := ring, entries := entries }

/-- Whether the next entry publishes (R69). -/
def Gauge.publishesNext (g : Gauge) : Bool := (g.entries + 1) % 4 == 0

/-- The tape is at rest (R71): the ring is emptied and a CURRENT estimate becomes HELD. -/
def Gauge.atRest (g : Gauge) : Gauge :=
  { g.emptied with estimate := if g.estimate = .current then .held else g.estimate }

/-- The transport reports the tape at rest (R71). -/
def gaugeAtRest (s : State) : State :=
  raiseIf (s.gauge.estimate == .current) .gauge (s.modGauge Gauge.atRest)

/-- The estimate is cleared, and GAUGE raised if it was not already NONE (R65, R66, R71). -/
def clearEstimate (s : State) : State :=
  raiseIf (s.gauge.estimate != .none) .gauge (s.modGauge Gauge.cleared)

/-- The Reel Monitor offers both periods; an invalid take-up period drops the offer (R67). -/
def offerPeriods (s : State) : State :=
  if validRing s.reels.takeUpRing then
    let f := fractionOf s.settings.g100 (revolution s.reels.supplyRing) (revolution s.reels.takeUpRing)
    raiseIf s.gauge.publishesNext .gauge (s.modGauge (Gauge.enter f))
  else s

/-- The active class as an insertion, a recovery or an ejection sets it (R62, R64). -/
def setActiveClass (c : Option Nat) (s : State) : State := s.modGauge fun g => { g with active := c }

/-- The minutes of a class replaced (R65). -/
def Gauge.putMinutes (n minutes : Nat) (g : Gauge) : Gauge := { g with classes := g.classes.set n minutes }

/-- The remaining time at a speed, absent while the estimate is NONE (R70). -/
def Gauge.remainingAt (g : Gauge) (v : Speed) : Option Nat := g.remainingSp.map (· * v.factor)

end Sys2Proof.Machine
end

