-- ==== Sys2Proof/Machine/Reels.lean ====
section
/-!
DEFINITION. The Reel Monitor (R54 to R61): rings and references, the stall timer, and the start bursts.
-/

namespace Sys2Proof.Machine

/-- The direction a state moves the tape in, none at rest. -/
def TState.motion? (t : TState) : Option Direction :=
  match t.motion with
  | .atRest => none
  | d => some d

/-- The supervised reel of a state: the reel that receives tape (R58). -/
def TState.supervised (t : TState) : Option Reel :=
  match t with
  | .play | .record | .cue | .fwind => some .takeUp
  | .review | .rwind => some .supply
  | _ => none

/-- The stall timeout that entering a state starts; a wind state starts none until its bursts end (R58). -/
def stallTimeout (t : TState) (v : Speed) : Option Nat :=
  match t with
  | .play | .record =>
    match v with
    | .sp => some Config.stallSp
    | .lp => some Config.stallLp
    | .ep => some Config.stallEp
  | .cue | .review => some Config.stallScan
  | _ => none

/-- The two wind states. -/
def TState.winding (t : TState) : Bool := t == .fwind || t == .rwind

/-- Both rings emptied, both references absent, the count 0 (R56). -/
def ReelMonitor.emptied (d : Option Direction) (r : ReelMonitor) : ReelMonitor :=
  { r with supplyRing := [], takeUpRing := [], supplyRef := none, takeUpRef := none, ringDirection := d,
           supplyTaken := 0 }

/-- Both references absent (R55). -/
def ReelMonitor.noReferences (r : ReelMonitor) : ReelMonitor := { r with supplyRef := none, takeUpRef := none }

/-- The rings as entry into `new` from `old` leaves them (R56). -/
def ReelMonitor.ringsEntered (old new : TState) (r : ReelMonitor) : ReelMonitor :=
  if new.running && (old == .stop || old == .threading) then r.emptied new.motion?
  else
    match new.motion? with
    | none => r
    | some d =>
      match r.ringDirection with
      | none => { r with ringDirection := some d }
      | some d' => if d' = d then r else r.emptied (some d)

/-- What entry into `new` from `old`, at current speed `v`, does to the Reel Monitor (R55, R56, R58, R60, R61). -/
def ReelMonitor.entered (old new : TState) (v : Speed) (r : ReelMonitor) : ReelMonitor :=
  let rings := r.ringsEntered old new
  let refs := if new.motion = .atRest then rings.noReferences else rings
  { refs with
    supervised := new.supervised
    stallTimer := stallTimeout new v
    burst := if new.winding then .bursting 1 true else .none }

/-- The interval from a reference to a pulse, in whole milliseconds 1..65535 (R55). -/
def intervalOf (ref instant : Nat) : Nat := clamp 1 65535 (instant - ref)

/-- A taken pulse of one reel (R55). -/
def ReelMonitor.take (reel : Reel) (instant : Nat) (r : ReelMonitor) : ReelMonitor :=
  match reel with
  | .supply =>
    match r.supplyRef with
    | none => { r with supplyRef := some instant }
    | some ref =>
      { r with supplyRef := some instant, supplyRing := pushRing 6 (intervalOf ref instant) r.supplyRing,
               supplyTaken := (r.supplyTaken + 1) % 6 }
  | .takeUp =>
    match r.takeUpRef with
    | none => { r with takeUpRef := some instant }
    | some ref =>
      { r with takeUpRef := some instant, takeUpRing := pushRing 6 (intervalOf ref instant) r.takeUpRing }

/-- Whether a pulse completes a supply revolution: an interval enters, the count returns to 0 and the ring holds 6
(R55). -/
def ReelMonitor.completesRevolution (reel : Reel) (before after : ReelMonitor) : Bool :=
  reel == .supply && before.supplyRef.isSome && after.supplyTaken == 0 && after.supplyRing.length == 6

/-- A pulse from the receiving reel ends the bursts in FULL and starts the stall timer with 1 s (R61). -/
def ReelMonitor.burstPulse (reel : Reel) (r : ReelMonitor) : ReelMonitor :=
  match r.burst with
  | .bursting _ _ =>
    if r.supervised = some reel then { r with burst := .full, stallTimer := some Config.stallWind } else r
  | _ => r

/-- The reel motor drive of a state and burst phase (R2, R60, R61). -/
def reelDriveOf (t : TState) (b : Burst) : ReelDrive :=
  match t with
  | .play | .record | .cue => .takeUpTension
  | .review => .supplyTension
  | .fwind => match b with
    | .bursting _ true => .forward
    | .full => .fullForward
    | _ => .off
  | .rwind => match b with
    | .bursting _ true => .reverse
    | .full => .fullReverse
    | _ => .off
  | _ => .off

/-- The reel motor follows the burst phase (R60, R61). -/
def driveReel (s : State) : State :=
  s.modOutputs fun o => { o with reel := reelDriveOf s.transport.state s.reels.burst }

/-- A reel pulse outside HOLD while the direction is FORWARD or REVERSE (R55, R61, R67). -/
def reelPulse (reel : Reel) (instant : Nat) (s : State) : State :=
  if s.inHold || s.transport.state.motion == .atRest then s
  else
    let before := s.reels
    let after := before.take reel instant
    let s := driveReel (s.modReels fun _ => after.burstPulse reel)
    if ReelMonitor.completesRevolution reel before after then offerPeriods s else s

/-- A change of the current speed in PLAY starts the running stall timer again with the new timeout (R58). -/
def ReelMonitor.speedChanged (t : TState) (v : Speed) (r : ReelMonitor) : ReelMonitor :=
  if t = .play ∧ r.stallTimer.isSome then { r with stallTimer := stallTimeout t v } else r

/-- At mains loss (R54): the stall timer stops, the burst phase ends, nothing is supervised, the references go. -/
def ReelMonitor.halted (r : ReelMonitor) : ReelMonitor :=
  { r.noReferences with supervised := none, stallTimer := none, burst := .none }

/-- The next part of a start burst; none after the OFF part of burst 8 (R60). -/
def nextBurst (number : Nat) (on : Bool) : Option Burst :=
  if on then some (.bursting number false)
  else if number < 8 then some (.bursting (number + 1) true)
  else none

end Sys2Proof.Machine
end

