-- ==== Sys2Proof/Machine/Position.lean ====
section
/-!
DEFINITION. The Position Counter's own record (R36 to R45, R52): the counter, the index list, the count direction and the
endings of searches. What a search asks of the transport stands in Search.lean.
-/

namespace Sys2Proof.Machine

/-- The counter after a pulse counted in a direction: one up or one down, saturating at the bounds (R37). -/
def countedIn (bound : Int) (d : Direction) (counter : Int) : Int :=
  match d with
  | .forward => saturate (-bound) bound (counter + 1)
  | .reverse => saturate (-bound) bound (counter - 1)
  | .atRest => counter

/-- The transport's report of direction (R37): at rest the track status becomes ABSENT. -/
def Position.directed (d : Direction) (p : Position) : Position :=
  { p with direction := d, trackPresent := p.trackPresent && d != .atRest }

/-- What entry into `new` from `old` does to the Position Counter: the direction of motion, and a pending mark that goes
when the transport leaves RECORD (R37, R42). -/
def Position.entered (old new : TState) (p : Position) : Position :=
  let q := p.directed new.motion
  if old = .record ∧ new ≠ .record then { q with pendingMark := false } else q

/-- The distance of two positions. -/
def distance (a b : Int) : Nat := (a - b).natAbs

/-- A position put in its place in increasing order (R44). -/
def insertInOrder (x : Int) : List Int → List Int
  | [] => [x]
  | y :: ys => if x < y then x :: y :: ys else y :: insertInOrder x ys

/-- The entry of a list farthest from the counter; of two equally far the lower, which stands earlier (R44). -/
def farthest (counter : Int) : List Int → Option Int
  | [] => none
  | y :: ys =>
    match farthest counter ys with
    | none => some y
    | some z => if distance counter z ≤ distance counter y then some y else some z

/-- A position offered to the index list: turned away by an entry within `spacing`, else admitted, the farthest entry
leaving a full list (R44). -/
def admitMark (spacing : Nat) (counter position : Int) (list : List Int) : List Int :=
  if list.any (fun e => distance e position ≤ spacing) then list
  else if list.length < 32 then insertInOrder position list
  else
    match farthest counter list with
    | some e => insertInOrder position (list.erase e)
    | none => insertInOrder position list

/-- The present counter value offered to the index list (R44). -/
def offerMark (s : State) : State :=
  s.modPosition fun p => { p with index := admitMark s.settings.standard.frames p.counter p.counter p.index }

/-- A recording start: with *index write* on the pending mark is set (R42). -/
def recordingStart (s : State) : State :=
  s.modPosition fun p => { p with pendingMark := p.pendingMark || s.settings.indexWrite }

/-- The kind of a search record (R46). -/
def Search.kind (r : Search) : SearchKind := if r.index then .index else .counter

/-- A search ends: its record absent, its ending written (R52). -/
def Position.ended (r : Search) (o : SearchOutcome) (p : Position) : Position :=
  { p with search := none, lastEnding := some ⟨r.kind, o, p.counter, some r.link⟩ }

/-- Ends a running search with an outcome and raises SEARCH_END; nothing when none runs (R52). -/
def endSearch (o : SearchOutcome) (s : State) : State :=
  match s.position.search with
  | none => s
  | some r => raise .searchEnd (s.modPosition (Position.ended r o))

/-- The cassette is gone: counter 0, index list empty, by an ejection (R36) or found so by recovery (R39, log entry 16). -/
def Position.ejected (p : Position) : Position := { p with counter := 0, index := [] }

/-- RESET_COUNTER on the counter and the list: every entry shifted, those outside the range removed (R39). -/
def Position.rezeroed (bound : Int) (p : Position) : Position :=
  { p with counter := 0,
           index := (p.index.map (· - p.counter)).filter fun e => decide (-bound ≤ e ∧ e ≤ bound) }

/-- The search mode shifted by a reset of the counter (R39). -/
def SearchMode.shifted (by_ : Int) : SearchMode → SearchMode
  | .target t => .target (t - by_)
  | .counting n => .counting n

/-- Whether a search's target lies within the counter's range. -/
def SearchMode.inRange (bound : Int) : SearchMode → Bool
  | .target t => decide (-bound ≤ t ∧ t ≤ bound)
  | .counting _ => true

/-- The line of the display: whether negative, then hours, minutes and seconds (R38). -/
def displayOf (frames : Nat) (counter : Int) : Bool × Nat × Nat × Nat :=
  let seconds := counter.natAbs / frames
  (decide (counter < 0), seconds / 3600, seconds % 3600 / 60, seconds % 60)

end Sys2Proof.Machine
end

