-- ==== Sys2Proof/Machine/Reception.lean ====
section
/-!
DEFINITION. When the Label Receiver listens, and how a collection ends (R114, R115, R120, R126), with the report of a
tuning change and of a release that the Tuner Controller makes (R89, R95, R102).
-/

namespace Sys2Proof.Machine

/-- Whether a packet has begun and not ended (R114). -/
def ReceiverState.collecting : ReceiverState → Bool
  | .collectLength | .collect => true
  | _ => false

/-- A termination (R120): the reason written, nothing under collection, SEEK_IDLE, the quiet wait while still live. -/
def Receiver.terminate (why : Termination) (r : Receiver) : Receiver :=
  { r with state := .seekIdle, gapTimer := false, collecting := none, lastReason := why, quietTimer := r.live }

/-- Back to SEEK_IDLE with no packet begun (R115, R116, R120). -/
def Receiver.seek (r : Receiver) : Receiver := { r with state := .seekIdle, gapTimer := false, quietTimer := r.live }

/-- What a tuning change or becoming idle does to a reception: a packet under collection ends ABORTED, and in any case
the quiet wait begins anew (R115, R120). -/
def Receiver.interrupted (r : Receiver) : Receiver :=
  if r.state.collecting then r.terminate .aborted else r.seek

/-- The label queue, the last queued packet and both read-outs emptied (R126). -/
def Receiver.emptied (r : Receiver) : Receiver :=
  { r with labels := [], lastQueued := none, readOut := ⟨none, none⟩ }

/-- The conditions under which the receiver is live (R115). -/
def State.listens (s : State) : Bool := s.isOn && s.tuner.lock == .locked && s.tuner.search.isNone

/-- The receiver takes the answer of R115: becoming live starts the quiet timer in SEEK_IDLE, becoming idle ends what it
was doing. -/
def Receiver.becomes (live : Bool) (r : Receiver) : Receiver :=
  if r.live = live then r
  else if live then { r with live := true, state := .seekIdle, quietTimer := true }
  else { r with live := false }.interrupted

/-- The receiver judges whether it is live (R115). -/
def judgeLive (s : State) : State := s.modReceiver (Receiver.becomes s.listens)

/-- The candidate made absent (R89). -/
def dropCandidate (s : State) : State := s.modClock fun c => { c with candidate := none }

/-- The Tuner Controller's report of a tuning change, to the Label Receiver and to the Clock Unit (R89, R95, R120,
R126). -/
def tuningChange (s : State) : State :=
  judgeLive (dropCandidate (s.modReceiver fun r => r.interrupted.emptied))

end Sys2Proof.Machine
end

