-- ==== Sys2Proof/Machine/Tuning.lean ====
section
/-!
DEFINITION. The applied tuning, the tuner holder and the preset table (R91 to R103, R107): what the requests, the station
search, the Timer Engine and the power state all share.
-/

namespace Sys2Proof.Machine

/-! ## Tuner writes -/

/-- The applied divider: base plus fine offset plus correction, held within the range (R95). -/
def appliedDivider (base : Nat) (fine correction : Int) : Nat :=
  (saturate Config.minDivider Config.maxDivider (base + fine + correction)).toNat

/-- The applied divider and its band follow the three numbers (R93, R95). -/
def Tuner.retuned (t : Tuner) : Tuner :=
  let n := appliedDivider t.base t.fine t.correction
  { t with divider := n, band := bandOf n }

/-- The tuner write on the module's line, while the module has power (R95). -/
def writeModule (s : State) : State :=
  if s.isOn then s.modOutputs fun o => { o with tunerWord := some s.tuner.divider } else s

/-- A correction write: offset, AFT enable and correction change; source and base divider are kept (R95). -/
def correctionWrite (fine : Int) (aft : Bool) (correction : Int) (s : State) : State :=
  writeModule (s.modTuner fun t => { t with fine := fine, aft := aft, correction := correction }.retuned)

/-- The record after a tuning write, a search step's among them (R95, R96); without main power the lock state stays OFF. -/
def Tuner.tuned (on : Bool) (x : Tuning) (t : Tuner) : Tuner :=
  { t with present := true, source := x.source, base := x.base, fine := x.fine, aft := x.aft, correction := 0,
           lock := if on then .settling else .off, retrySpent := false }.retuned

/-- What a tuning write does toward the module: correction 0, the write sent, SETTLING, the retry unspent (R95). -/
def tuneModule (x : Tuning) (s : State) : State := writeModule (s.modTuner (Tuner.tuned s.isOn x))

/-- A tuning write, with its change reported and TUNER raised (R95). -/
def tuningWrite (x : Tuning) (s : State) : State := raise .tuner (tuningChange (tuneModule x s))

/-- The tuning as it stands, or none when no tuning is applied. -/
def Tuner.standing (t : Tuner) : Option Tuning :=
  if t.present then some ⟨t.source, t.base, t.fine, t.aft⟩ else none

/-! ## The preset table -/

/-- The preset of number `n`, 1..60. -/
def State.preset (s : State) (n : Nat) : Preset := s.presets.getD (n - 1) .factory

/-- The applied preset loses its record: source NONE, the module where it was, a tuning change reported (R101). -/
def detachPreset (s : State) : State :=
  raise .tuner (tuningChange (s.modTuner fun t => { t with source := .none, stale := false }))

/-- The tuning of a preset's record. -/
def Preset.tuning (n : Nat) (p : Preset) : Tuning := ⟨.preset n, p.divider, p.fine, p.aft⟩

/-- Applying preset `n` from its record (R95): a tuning write when the source or the base divider changes, else a
correction write that keeps the correction while AFT stays enabled. Stale goes off. -/
def applyPreset (n : Nat) (s : State) : State :=
  let p := s.preset n
  let s' := s.modTuner fun t => { t with stale := false }
  if s.tuner.present ∧ s.tuner.source = .preset n ∧ s.tuner.base = p.divider then
    correctionWrite p.fine p.aft (if p.aft then s.tuner.correction else 0) s'
  else tuningWrite (p.tuning n) s'

/-- The applied preset taken from the table again (R101, left column). -/
def reapplyPreset (n : Nat) (s : State) : State :=
  if (s.preset n).stored then applyPreset n s else detachPreset s

/-- Whether two records differ in a field other than the version (R92). -/
def Preset.differs (a b : Preset) : Bool := { a with version := 0 } != { b with version := 0 }

/-- Whether two records differ in state, divider, fine offset or AFT enable (R101). -/
def Preset.tunesOtherwise (a b : Preset) : Bool :=
  a.stored != b.stored || a.divider != b.divider || a.fine != b.fine || a.aft != b.aft

/-- What a change of a record does to the applied tuning, by holder and by what changed (R101). -/
def followPreset (n : Nat) (old new : Preset) (s : State) : State :=
  if s.tuner.source = .preset n ∧ old.tunesOtherwise new = true then
    if s.tuner.holder = .timer then s.modTuner fun t => { t with stale := true }
    else reapplyPreset n s
  else s

/-- A write of a preset's record (R92): a change advances the version, marks PRESETS dirty, is the last changed preset
and raises TUNER, and then acts on the applied tuning (R101). A write that changes nothing does nothing. -/
def writePreset (n : Nat) (p : Preset) (s : State) : State :=
  let old := s.preset n
  if old.differs p then
    let s := s.modPresets fun t => t.set (n - 1) { p with version := (old.version + 1) % 256 }
    let s := markDirty .presets s
    let s := s.modTuner fun t => { t with lastChanged := some n }
    followPreset n old p (raise .tuner s)
  else s

/-- The lowest number, counted from `n`, of a record that passes a test. -/
def firstPresetFrom (ok : Preset → Bool) (n : Nat) : List Preset → Option Nat
  | [] => none
  | p :: ps => if ok p then some n else firstPresetFrom ok (n + 1) ps

/-- The lowest-numbered preset that passes a test. -/
def State.lowestPreset (ok : Preset → Bool) (s : State) : Option Nat := firstPresetFrom ok 1 s.presets

/-- STORED with the skip flag off (R99, R103). -/
def Preset.stepsTo (p : Preset) : Bool := p.stored && !p.skip

/-- EMPTY with an empty name: where automatic storing puts a station (R106). -/
def Preset.vacant (p : Preset) : Bool := !p.stored && p.name.isEmpty

/-! ## The holder -/

/-- The holder VIEW of a rank and link (R98). -/
def viewOf (r : Rank) (l : Link) : TunerHolder :=
  match r with
  | .user => .viewUser l
  | .automatic => .viewAuto l

/-- A new holder. A change raises TUNER (R113); becoming NONE is reported as a release to the Clock Unit (R102). -/
def setTunerHolder (h : TunerHolder) (s : State) : State :=
  if s.tuner.holder = h then s
  else
    let s := raise .tuner (s.modTuner fun t => { t with holder := h })
    if h = .none then dropCandidate s else s

/-! ## Endings of a station search -/

/-- The record of an ending (R107). -/
def Tuner.searchEnded (x : StationSearch) (o : StationOutcome) (divider : Nat) (t : Tuner) : Tuner :=
  { t with search := none,
           lastEnding := some ⟨x.storing, o, if x.storing then x.stored else 0, divider⟩ }

/-- A station search ends with an outcome at a divider: the record absent, the ending written, STATION_SEARCH_END raised
and a tuning change reported with TUNER (R107). -/
def endStationSearch (x : StationSearch) (o : StationOutcome) (divider : Nat) (s : State) : State :=
  raise .tuner (tuningChange (raise .stationSearchEnd (s.modTuner (Tuner.searchEnded x o divider))))

/-- A running search ends ABORTED, at its step divider (R107); where no tuning write follows, the lock state is the SETTLING
of the search's last step, supervised from then on (R95, R96; log entry 43). -/
def abortStationSearch (s : State) : State :=
  match s.tuner.search with
  | none => s
  | some x => endStationSearch x .aborted x.divider s

/-! ## Main power (R103) -/

/-- Leaving ON: the lock state OFF, the correction 0, the retry unspent; source, base and copies kept (R103). -/
def Tuner.unpowered (t : Tuner) : Tuner :=
  { t with lock := .off, correction := 0, retrySpent := false }.retuned

/-- Main power leaves ON: a search ends ABORTED, a view or search holder becomes NONE, a TIMER holder is kept, and a lock
state that leaves LOST raises TUNER (R103, R113). -/
def tunerOff (s : State) : State :=
  let s := abortStationSearch s
  let s := if s.tuner.holder = .timer then s else setTunerHolder .none s
  let s := raiseIf (s.tuner.lock == .lost) .tuner s
  (s.modTuner Tuner.unpowered).modOutputs fun o => { o with tunerWord := none }

/-- Main power goes ON: the standing tuning is written again, or the lowest preset that qualifies is applied (R103). -/
def tunerOn (s : State) : State :=
  match s.tuner.standing with
  | some x =>
    let gone := match x.source with
      | .preset n => !(s.preset n).stored
      | _ => false
    if gone then tuningWrite { x with source := .none } (s.modTuner fun t => { t with stale := false })
    else tuningWrite x s
  | none =>
    match s.lowestPreset Preset.stepsTo with
    | some n => applyPreset n s
    | none => s

/-! ## The Timer Engine's requests (R102) -/

/-- Whether the tuner refuses the engine's take: a user's own search (R102). -/
def State.tunerBusy (s : State) : Bool :=
  match s.tuner.holder with
  | .search .user _ => true
  | _ => false

/-- The named preset applied if it is STORED, the tuning left as it stands otherwise (R102). -/
def applyIfStored (n : Nat) (s : State) : State := if (s.preset n).stored then applyPreset n s else s

/-- Take, with main power ON and no user search: a search ends ABORTED, the holder becomes TIMER, the preset is applied
(R102). -/
def tunerTake (n : Nat) (s : State) : State :=
  if s.isOn && !s.tunerBusy then applyIfStored n (setTunerHolder .timer (abortStationSearch s)) else s

/-- Retune, under the TIMER holder (R102). -/
def tunerRetune (n : Nat) (s : State) : State :=
  if s.tuner.holder = .timer then applyIfStored n s else s

/-- The stale rule of a release (R101). -/
def settleStale (s : State) : State :=
  if s.tuner.stale then
    match s.tuner.source with
    | .preset n => reapplyPreset n s
    | _ => s.modTuner fun t => { t with stale := false }
  else s

/-- Release: the holder NONE, and a stale preset taken from the table again (R101, R102). -/
def tunerRelease (s : State) : State :=
  if s.tuner.holder = .timer then settleStale (setTunerHolder .none s) else s

end Sys2Proof.Machine
end

