-- ==== Sys2Proof/Machine/Answers.lean ====
section
/-!
DEFINITION. What an owning block answers to a request, and the reply data of an accepted one (R184).
-/

namespace Sys2Proof.Machine

/-- The answer to a request: a refusal, or 24 bits of reply data (R184). -/
inductive Answer where
  | refuse (why : Refuse)
  | reply (data : Arg)
  deriving DecidableEq, Repr

/-- An answer with the state it leaves. -/
abbrev Answered := Answer × State

/-- A refused request changes nothing. -/
def refuse (why : Refuse) (s : State) : Answered := (.refuse why, s)

/-- An accepted request whose reply is 0 (R184). -/
def accept (s : State) : Answered := (.reply 0, s)

/-- The reply data of an accepted ACTION: byte 1 the note, bytes 2 and 3 the value (R184). -/
def noteData (conflict : Bool) (value : Option Int) : Arg :=
  let note : Nat := (if conflict then 1 else 0) + (if value.isSome then 2 else 0)
  BitVec.ofNat 8 note ++ BitVec.ofInt 16 (value.getD 0)

/-- An accepted ACTION that carries a value in its note. -/
def acceptValue (v : Int) (s : State) : Answered := (.reply (noteData false (some v)), s)

/-- An accepted WRITE: the selector echoed over the value taken (R184). -/
def acceptWrite (sel : Selector) (taken : Nat) (s : State) : Answered := (.reply (sel ++ BitVec.ofNat 20 taken), s)

/-- The reply holder that an answer leaves: a refusal code in the low byte, or the reply data (R184). -/
def Answer.holder : Answer → ReplyHolder
  | .refuse why => ⟨true, BitVec.ofNat 24 why.code⟩
  | .reply data => ⟨false, data⟩

end Sys2Proof.Machine
end

