-- ==== Sys2Proof/Machine/Supervisor.lean ====
section
/-!
DEFINITION. The Power Supervisor's moves (R167, R171 to R173) and the resets of a port (R180).
-/

namespace Sys2Proof.Machine

/-- The preset of a blank definition: the applied preset when the source is PRESET, 1 otherwise (R133). -/
def State.blankPreset (s : State) : Nat := (s.tuner.source.preset?).getD 1

/-- A port's initial state, with the blank definition of this moment (R132, R133, R180). -/
def State.initialPort (s : State) : Port := .initial (.initial s.clock.now.date s.blankPreset)

/-- The port of link `l` takes its initial state; the link's staged date, snapshot and read-out go (R180). -/
def resetPort (l : Link) (s : State) : State :=
  let s := s.modPort l fun _ => s.initialPort
  let s := s.modClock fun c => { c with staged := c.staged.put l none, snapshot := c.snapshot.put l none }
  s.modReceiver fun r => { r with readOut := r.readOut.put l none }

/-- The power state changes: the relay, the last change (R167). -/
def changePower (into : PowerState) (cause : PowerCause) (s : State) : State :=
  let s := s.modPower fun p => { p with state := into, lastChange := some ⟨p.state, into, cause⟩ }
  s.modOutputs fun o => { o with relay := into == .on }

/-- Main power goes ON from STANDBY: the Tuner Controller, the Label Receiver and Link G take it in that order, and POWER
is raised (R167, R172, R180). -/
def enterOn (cause : PowerCause) (s : State) : State :=
  raise .power (resetPort .g (judgeLive (tunerOn (changePower .on cause s))))

/-- A port whose link stops being live: a frame in progress is discarded, data out and the attention line are held low
(R181). -/
def Port.dead (p : Port) : Port := { p with frame := none, outgoing := 0, attention := false }

/-- Main power leaves ON with the cause of the switch-off: STANDBY, the switch-off gone, the flag off; the tuner and the
receiver follow, Link G's set is emptied, and POWER is raised (R171, R180). -/
def leaveOn (cause : PowerCause) (s : State) : State :=
  let s := changePower .standby cause s
  let s := s.modPower fun p => { p with pendingOff := none, raised := false }
  let s := (judgeLive (tunerOff s)).modReceiver Receiver.emptied
  raise .power (s.modPort .g fun p => { p.dead with pending := 0 })

/-- The cause a pending switch-off records (R167). -/
def SwitchOff.cause : SwitchOff → PowerCause
  | .userOff _ => .userOff
  | .lock => .lock
  | .timerReturn => .timerReturn

/-- Whether a pending switch-off is completed: the transport rests and no occurrence is current (R171). -/
def State.switchesOff (s : State) : Bool :=
  s.power.pendingOff.isSome && s.isOn && s.transport.state.resting && s.engine.current.isNone

/-- A pending switch-off judged (R171). -/
def judgeSwitchOff (s : State) : State :=
  match s.power.pendingOff with
  | none => s
  | some off => if s.switchesOff then leaveOn off.cause s else s

/-- The pending switch-off replaced or set (R170, R173). -/
def pendSwitchOff (off : SwitchOff) (s : State) : State := s.modPower fun p => { p with pendingOff := some off }

/-- A pending switch-off of cause USER_OFF made absent (R171). -/
def Power.userOffCancelled (p : Power) : Power :=
  match p.pendingOff with
  | some (.userOff _) => { p with pendingOff := none }
  | _ => p

/-- The power-raised-by-timer flag set off (R173). -/
def clearRaised (s : State) : State := s.modPower fun p => { p with raised := false }

/-- The engine's raise: ON with cause TIMER and the flag on from STANDBY, nothing in ON (R173). -/
def timerRaise (s : State) : State :=
  if s.power.state = .standby then enterOn .timer (s.modPower fun p => { p with raised := true }) else s

/-- The engine's resume at mains restore: a raise that keeps the flag (R173). -/
def timerResume (s : State) : State := if s.power.state = .standby then enterOn .timer s else s

/-- The engine's return to standby (R173). -/
def timerReturn (s : State) : State := if s.power.raised then pendSwitchOff .timerReturn s else s

/-- Lock standby (R173). -/
def lockStandby (s : State) : State := if s.isOn then pendSwitchOff .lock s else s

end Sys2Proof.Machine
end

