-- ==== Sys2Proof/Machine/Transport.lean ====
section
/-!
DEFINITION. The Transport Controller's moves (R1 to R35): entering a state, the judging of requests, the carrying out of
an intent, faults and recovery, and the requests of the Timer Engine.
-/

namespace Sys2Proof.Machine

/-! ## Entering a state -/

/-- The state an intent names; EJECT is reached only with EMPTY (R4). -/
def Intent.names (t : TState) : Intent → Bool
  | .play => t == .play
  | .record _ => t == .record
  | .cue => t == .cue
  | .review => t == .review
  | .fwind => t == .fwind
  | .rwind => t == .rwind
  | .stop => t == .stop
  | .parked => t == .parked
  | .eject => false

/-- The intent after entry into a state: none when it named the state, and in EMPTY and FAULT (R4). -/
def intentAfter (t : TState) (i : Option Intent) : Option Intent :=
  match i with
  | none => none
  | some x => if t = .empty ∨ t = .fault ∨ x.names t = true then none else some x

/-- The current speed on entry into a state (R3). -/
def speedOn (t : TState) (sense : SpeedCode) (speed recordSpeed : Speed) : Speed :=
  if t.reading then speedOfSense sense
  else match t with
    | .record | .recPause => recordSpeed
    | .empty => .sp
    | _ => speed

/-- The timer of the motion that a state begins (R18, R20, R22, R23). -/
def motionOn : TState → MotionTimer
  | .inserting => .insert
  | .threading => .threadFirst
  | .unthreading => .unthread
  | .ejecting => .eject
  | _ => .stopped

/-- The limit that a state starts (R24, R25). -/
def limitOn : TState → LimitTimer
  | .still => .still
  | .recPause => .recPause
  | .stop => .stopThreaded
  | _ => .stopped

/-- The drum phase on entry into a state (R26). -/
def drumOn (old new : TState) (d : DrumPhase) : DrumPhase :=
  if new.drumState then (if old.drumState then d else .spinUp) else .off

/-- The transport record on entry into a state. -/
def Transport.entered (new : TState) (sense : SpeedCode) (t : Transport) : Transport :=
  { t with
    state := new
    intent := intentAfter new t.intent
    tab := if new = .empty then .unknown else t.tab
    speed := speedOn new sense t.speed t.recordSpeed
    oneTouch := if new = .record ∨ new = .recPause then t.oneTouch else none
    motion := motionOn new
    limit := limitOn new
    drum := drumOn t.state new t.drum }

/-- The capstan command of a state (R2). -/
def capstanOf (t : TState) (speed recordSpeed : Speed) : Capstan :=
  match t with
  | .play => .run speed false 1
  | .still => .run speed false 0
  | .record => .run recordSpeed false 1
  | .recPause => .run recordSpeed false 0
  | .cue => .run speed false 7
  | .review => .run speed true 7
  | _ => .halt

/-- The brake of a state (R2). -/
def brakeOf : TState → Bool
  | .threading | .unthreading | .play | .record | .cue | .review | .fwind | .rwind => false
  | _ => true

/-- The mechanism outputs of a state (R2). -/
def Outputs.driven (t : TState) (speed recordSpeed : Speed) (b : Burst) (o : Outputs) : Outputs :=
  { o with
    capstan := capstanOf t speed recordSpeed
    reel := reelDriveOf t b
    brake := brakeOf t
    recordEnable := t == .record
    loading := match t with
      | .inserting => .inward
      | .ejecting => .outward
      | _ => .off
    threading := match t with
      | .threading => .inward
      | .unthreading => .outward
      | _ => .off }

/-- The outputs set from the state and the burst phase (R2). -/
def driveOutputs (s : State) : State :=
  s.modOutputs (Outputs.driven s.transport.state s.transport.speed s.transport.recordSpeed s.reels.burst)

/-- The transport enters a state: its record, the reports of R35 to the Position Counter, the Reel Monitor and the Tape
Gauge, the outputs, and TRANSPORT when the state changes (R1, R2, R35). -/
def enter (new : TState) (s : State) : State :=
  let old := s.transport.state
  let s := s.modTransport (Transport.entered new s.pins.speedSense)
  let s := s.modPosition (Position.entered old new)
  let s := s.modReels (ReelMonitor.entered old new s.transport.speed)
  let s := if new.motion = .atRest then gaugeAtRest s else s
  raiseIf (old != new) .transport (driveOutputs s)

/-- The intent replaced (R4). -/
def setIntent (i : Option Intent) (s : State) : State := s.modTransport fun t => { t with intent := i }

/-- The holder replaced (R5). -/
def setHolder (h : Holder) (s : State) : State := s.modTransport fun t => { t with holder := h }

/-- THREADING with an intent (R20). -/
def thread (i : Intent) (s : State) : State := enter .threading (setIntent (some i) s)

/-- Whether a holder is a link's. -/
def Holder.ofLink : Holder → Bool
  | .user _ | .auto _ => true
  | _ => false

/-- Whether the transport is at rest where a link's holder is released (R6). -/
def Transport.releases (t : Transport) : Bool :=
  t.holder.ofLink && t.intent.isNone && (t.state == .stop || t.state == .parked || t.state == .empty)

/-- At rest in STOP, PARKED or EMPTY with no intent a USER or AUTO holder becomes NONE (R6). -/
def releaseAtRest (s : State) : State := if s.transport.releases then setHolder .none s else s

/-- RECORD entered from STOP or at the completion of threading: the record speed fixed, the one-touch time put into
effect, a recording start reported whoever asked (R3, R11, R12, R42). -/
def startRecord (src : RecordSource) (s : State) : State :=
  let speed := match src with
    | .link _ => s.settings.manualSpeed
    | .engine v _ => v
  let s := enter .record (s.modTransport fun t => { t with recordSpeed := speed })
  recordingStart (match src with
    | .link 0 => s
    | .link n => s.modTransport fun t => { t with oneTouch := some (n * 30 * Config.unitsPerMinute) }
    | .engine _ _ => s)

/-- RECORD resumed from REC_PAUSE: the record speed kept, a one-touch count replaces the time, and only the engine's mark
flag reports a recording start (R3, R11, R12). -/
def resumeRecord (src : RecordSource) (s : State) : State :=
  let s := enter .record s
  match src with
  | .link 0 => s
  | .link n => s.modTransport fun t => { t with oneTouch := some (n * 30 * Config.unitsPerMinute) }
  | .engine _ mark => if mark then recordingStart s else s

/-- STOP and at once UNTHREADING with an intent (R7, R17, R30, R170). -/
def stopAndUnthread (i : Intent) (s : State) : State :=
  let s := if s.transport.state = .stop then s else enter .stop s
  enter .unthreading (setIntent (some i) s)

/-! ## Judging a request (R5, R8, R9) -/

/-- The transport requests of R8, less CLEAR_FAULTS. -/
inductive Ask where
  | play
  | record (src : RecordSource)
  | pause | stop | cue | review | fwind | rwind | eject
  deriving DecidableEq, Repr

/-- The entries of the acceptance table (R9). -/
inductive Move where
  | enter (t : TState)
  | thread (i : Intent)
  | intend (i : Intent)
  | chain
  | stay
  | refuse (why : Refuse)
  deriving DecidableEq, Repr

/-- The intent that a request leads to; STOP and EJECT stand apart (R4). -/
def Ask.intent : Ask → Intent
  | .play => .play
  | .record src => .record src
  | .pause => .play
  | .stop => .stop
  | .cue => .cue
  | .review => .review
  | .fwind => .fwind
  | .rwind => .rwind
  | .eject => .eject

/-- The running state that an intent leads to, STOP for the others. -/
def Intent.target : Intent → TState
  | .play => .play
  | .record _ => .record
  | .cue => .cue
  | .review => .review
  | .fwind => .fwind
  | .rwind => .rwind
  | .stop | .parked | .eject => .stop

/-- The row of a running state other than RECORD and REC_PAUSE for a request that reads or winds (R9). -/
def readingRow (t : TState) (a : Ask) : Move :=
  match a with
  | .play => if t = .play then .stay else .enter .play
  | .cue =>
    if t = .cue then .stay else if t = .play ∨ t = .still then .enter .cue else .refuse .wrongState
  | .review =>
    if t = .review then .stay else if t = .play ∨ t = .still then .enter .review else .refuse .wrongState
  | .fwind => if t = .fwind then .stay else .enter .fwind
  | .rwind => if t = .rwind then .stay else .enter .rwind
  | .pause =>
    if t = .play then .enter .still else if t = .still then .enter .play else .refuse .wrongState
  | .record _ => .refuse .wrongState
  | .stop => .enter .stop
  | .eject => .chain

/-- The acceptance table (R9). -/
def acceptance (t : TState) (a : Ask) : Move :=
  match t with
  | .empty => if a = .stop then .stay else .refuse .noCassette
  | .inserting =>
    match a with
    | .pause => .refuse .wrongState
    | .stop => .refuse .busy
    | _ => .intend a.intent
  | .parked =>
    match a with
    | .pause => .refuse .wrongState
    | .stop => .stay
    | .eject => .enter .ejecting
    | _ => .thread a.intent
  | .threading =>
    match a with
    | .pause => .refuse .wrongState
    | _ => .intend a.intent
  | .unthreading =>
    match a with
    | .pause => .refuse .wrongState
    | .stop => .intend .parked
    | _ => .intend a.intent
  | .stop =>
    match a with
    | .pause => .refuse .wrongState
    | .stop => .stay
    | .eject => .chain
    | _ => .enter a.intent.target
  | .record =>
    match a with
    | .pause => .enter .recPause
    | .stop => .enter .stop
    | .eject => .chain
    | _ => .refuse .wrongState
  | .recPause =>
    match a with
    | .record _ => .enter .record
    | .pause => .enter .record
    | .stop => .enter .stop
    | .eject => .chain
    | _ => .refuse .wrongState
  | .ejecting => if a = .eject then .stay else .refuse .busy
  | .fault => .refuse .fault
  | t => readingRow t a

/-- The state that an accepted request leads to, against which steps 6 to 8 are made (R8). -/
def Move.leadsTo (a : Ask) : Move → TState
  | .enter t => t
  | .thread i => i.target
  | .intend i => i.target
  | .stay => a.intent.target
  | .chain => .stop
  | .refuse _ => .stop

/-- The refusal of steps 6 to 8 for a state to be entered: the protective fault blocks, the tab, the tape sensor (R8,
R21, R27, R30). -/
def hindrance (s : State) (t : TState) : Option Refuse :=
  if s.protection.faults.blocks t then some .fault
  else if t = .record ∧ s.transport.tab = .absent then some .noTab
  else if s.pins.edgeToward t then some .tapeEnd
  else none

/-- The holder table (R5): whether a request is refused RANK. -/
def holderRefuses (h : Holder) (r : Rank) (stop : Bool) : Bool :=
  match h, r with
  | .none, _ => false
  | .auto _, _ => false
  | .user _, .user => false
  | .user _, .automatic => true
  | .timer, .user => !stop
  | .timer, .automatic => true

/-- Steps 1 and 2 of R8 and R47: LOCKED, NOT_ON. -/
def lockedOrOff (s : State) (r : Rank) : Option Refuse :=
  if s.engine.lock then some .locked
  else if ¬ s.isOn ∧ r = .automatic then some .notOn
  else none

/-- The judging of a transport request from a link (R8): a refusal, or the move. -/
def judgeAsk (s : State) (r : Rank) (a : Ask) : Except Refuse Move :=
  match lockedOrOff s r with
  | some why => .error why
  | none =>
    if s.transport.state = .fault then .error .fault
    else if holderRefuses s.transport.holder r (a == .stop) then .error .rank
    else
      match acceptance s.transport.state a with
      | .refuse why => .error why
      | m =>
        match hindrance s (m.leadsTo a) with
        | some why => .error why
        | none => .ok m

/-- The move taken by an accepted request (R4, R9, R17). A RECORD resumes from REC_PAUSE and starts from elsewhere. -/
def act (a : Ask) (m : Move) (s : State) : State :=
  match m with
  | .enter .record =>
    let src := match a with
      | .record src => src
      | _ => .link 0
    if s.transport.state = .recPause then resumeRecord src s else startRecord src s
  | .enter .ejecting => enter .ejecting (setIntent (some .eject) s)
  | .enter t => enter t s
  | .thread i => thread i s
  | .intend i => setIntent (some i) s
  | .chain => stopAndUnthread .eject s
  | .stay => s
  | .refuse _ => s

/-- The holder kind of a rank and link (R5). -/
def holderOf (r : Rank) (l : Link) : Holder :=
  match r with
  | .user => .user l
  | .automatic => .auto l

/-- What the acceptance of a transport or search request from a link brings before it acts: main power raised from
STANDBY, a USER_OFF switch-off gone, a running search ended, the holder set unless it is TIMER (R5, R8, R47, R171,
R172). -/
def acceptFrom (l : Link) (r : Rank) (takesHolder : Bool) (s : State) : State :=
  let s := if s.power.state = .standby then enterOn .transportRequest s else s
  let s := endSearch .aborted (s.modPower Power.userOffCancelled)
  if takesHolder ∧ s.transport.holder ≠ .timer then setHolder (holderOf r l) s else s

/-- A transport request from a link, judged and carried out (R5, R6, R8, R9). -/
def requestTransport (l : Link) (r : Rank) (a : Ask) (s : State) : Answered :=
  match judgeAsk s r a with
  | .error why => refuse why s
  | .ok m => accept (releaseAtRest (act a m (acceptFrom l r true s)))

/-! ## Completed motions (R21) -/

/-- Whether an intent still meets the checks when it is carried out (R21). -/
def intentHolds (s : State) (i : Intent) : Bool := (hindrance s i.target).isNone

/-- An intent carried out when threading completes (R21). -/
def carryOutThreaded (s : State) : State :=
  match s.transport.intent with
  | none => enter .stop s
  | some .stop => enter .stop s
  | some .parked => enter .unthreading s
  | some .eject => enter .unthreading s
  | some i =>
    if intentHolds s i then
      match i with
      | .record src => startRecord src s
      | _ => enter i.target s
    else enter .stop (setIntent none s)

/-- An intent carried out in PARKED, after an unthreading or an insertion (R21). -/
def carryOutParked (s : State) : State :=
  match s.transport.intent with
  | none => s
  | some .parked => setIntent none s
  | some .eject => enter .ejecting s
  | some i => if intentHolds s i then enter .threading s else setIntent none s

/-! ## Faults (R29, R30) -/

/-- A kind joins the latched set, and FAULT is raised (R29). -/
def latchKind (k : FaultKind) (s : State) : State :=
  raise .fault (s.modProtection fun p => { p with faults := p.faults.latch k })

/-- A jam fault latched: every motor stopped, the brake applied, timers stopped, the intent dropped, FAULT entered; a
search ends ABORTED (R29, R52). -/
def latchJam (k : FaultKind) (s : State) : State := endSearch .aborted (enter .fault (latchKind k s))

/-- A protective fault latched, once: a running state stops and parks, and a search ends ABORTED (R29, R30, R52). -/
def latchProtective (k : FaultKind) (s : State) : State :=
  if s.protection.faults.has k then s
  else
    let s := latchKind k s
    let s := if s.transport.state.running then stopAndUnthread .parked s else s
    endSearch .aborted s

/-! ## The Timer Engine's requests (R7) -/

/-- Whether the take is refused RANK (R7). -/
def State.transportBusy (s : State) : Bool :=
  match s.transport.holder with
  | .user _ => true
  | _ => false

/-- Take, where the holder is not USER (R7). -/
def transportTake (s : State) : State :=
  let s := endSearch .aborted (setHolder .timer s)
  match s.transport.state with
  | .parked => thread .stop s
  | .inserting | .threading | .unthreading => setIntent (some .stop) s
  | .empty | .stop | .ejecting | .fault => s
  | _ => enter .stop s

/-- Record, judged as a link RECORD is from step 5 of R8 on; none when it is refused (R7). -/
def transportRecord (v : Speed) (mark : Bool) (s : State) : Option State :=
  let a := Ask.record (.engine v mark)
  match acceptance s.transport.state a with
  | .refuse _ => none
  | m => if (hindrance s .record).isSome then none else some (act a m s)

/-- Pause (R7). -/
def transportPause (s : State) : State := if s.transport.state = .record then enter .recPause s else s

/-- Stop, as R13 (R7). -/
def transportStop (s : State) : State :=
  match acceptance s.transport.state .stop with
  | .refuse _ => s
  | m => act .stop m s

/-- Park (R7). -/
def transportPark (s : State) : State :=
  match s.transport.state with
  | .threading | .unthreading | .inserting => setIntent (some .parked) s
  | .parked | .empty | .ejecting | .fault => s
  | _ => stopAndUnthread .parked s

/-- The stop and park of a POWER OFF: an insertion and an ejection finish their motion (R170). -/
def transportOff (s : State) : State :=
  match s.transport.state with
  | .inserting | .ejecting => s
  | _ => transportPark s

/-- Release (R7). -/
def transportRelease (s : State) : State := if s.transport.holder = .timer then setHolder .none s else s

/-! ## Recovery (R34) -/

/-- The pins as recovery reads them. -/
def Pins.read (x : Readings) (p : Pins) : Pins :=
  { p with cassetteClosed := x.cassetteClosed, tapeStart := x.tapeStart, tapeEnd := x.tapeEnd }

/-- The state that recovery finds (R34). -/
def recovered (jam : Bool) (x : Readings) : TState :=
  if jam then .fault else if !x.cassetteClosed then .empty else if x.parkedClosed then .parked else .unthreading

/-- The active class as recovery leaves it (R62, R64); where the cassette has gone, its estimate goes too, so that an
insertion finds it NONE (log entry 16). -/
def recoverClass (x : Readings) (s : State) : State :=
  if !x.cassetteClosed then setActiveClass none (clearEstimate s)
  else if s.gauge.active.isNone then setActiveClass (some s.settings.defaultClass) s
  else s

/-- The tab switch's reading as a tab status (R1). -/
def tabOf (present : Bool) : TabStatus := if present then .present else .absent

/-- Recovery (R34): the state from the switches, the tab and the active class, TRANSPORT raised, and CASSETTE when the
switch does not match the state held before. The holder is released where the tape rests (R6). In EMPTY the counter is 0 and
the index list empty (R39, log entry 16). -/
def recover (x : Readings) (s : State) : State :=
  let before := s.transport.state
  let t := recovered s.protection.faults.jam x
  let s := s.modPins (Pins.read x)
  let s := setIntent (if t = .unthreading then some .parked else none) s
  let s := enter t s
  let s := if t = .empty then s.modPosition Position.ejected else s
  let s := if x.cassetteClosed then s.modTransport fun q => { q with tab := tabOf x.tabPresent } else s
  let s := raise .transport (recoverClass x s)
  releaseAtRest (raiseIf ((before == .empty) == x.cassetteClosed) .cassette s)

end Sys2Proof.Machine
end

