-- ==== Sys2Proof/Machine/Search.lean ====
section
/-!
DEFINITION. Searches (R46 to R53) and the control-track pulse (R37, R41 to R44): what the Position Counter asks of the
transport.
-/

namespace Sys2Proof.Machine

/-- The Position Counter's asking for a stop (R41, R52): STOP from a running state, as it stands elsewhere; the holder is
released as R6 gives. -/
def askStop (s : State) : State :=
  releaseAtRest (if s.transport.state.running then enter .stop s else s)

/-- A search's move to a running state, judged against the protective faults and the tape sensors; a move that fails ends
the search and asks for STOP (R46, R52). -/
def searchMove (t : TState) (s : State) : State :=
  if s.transport.state = t then s
  else if s.protection.faults.blocks t then askStop (endSearch .aborted s)
  else if s.pins.edgeToward t then askStop (endSearch .notFound s)
  else enter t s

/-- The end action of a search that has ended FOUND: PLAY or STOP, entered directly; a PLAY that a fault block or the
sensor refuses leaves STOP (R48, R52). -/
def endAction (play : Bool) (s : State) : State :=
  if play then
    if s.transport.state = .play then s
    else if intentHolds s .play then enter .play s
    else askStop s
  else askStop s

/-- A search ends FOUND with its end action (R48, R50). -/
def searchFound (r : Search) (s : State) : State := endAction r.endPlay (endSearch .found s)

/-- The approach distance, 10·F frames (R48). -/
def State.approachDistance (s : State) : Nat := 10 * s.settings.standard.frames

/-- The direction of a signed distance, absent for 0 (R46, R48). -/
def directionOf (d : Int) : Option Direction :=
  if d = 0 then none else if 0 < d then some .forward else some .reverse

/-- The wind state and the scan state of a direction (R48). -/
def windOf (d : Option Direction) : TState := if d = some .reverse then .rwind else .fwind
def scanOf (d : Option Direction) : TState := if d = some .reverse then .review else .cue

/-- The candidates of a SEARCH_INDEX: the entries beyond the counter, nearest first (R49). -/
def indexCandidates (list : List Int) (counter n : Int) : List Int :=
  if 0 < n then list.filter (fun e => decide (counter < e)) else (list.filter (fun e => decide (e < counter))).reverse

/-- The mode of a SEARCH_INDEX: its n-th candidate as target, or counting when there are fewer (R49). -/
def indexMode (list : List Int) (counter n : Int) : SearchMode :=
  match (indexCandidates list counter n)[n.natAbs - 1]? with
  | some t => .target t
  | none => .counting n.natAbs

/-- A search's mode and direction at the present counter; an INDEX search consults the list (R48, R49). -/
def Search.planned (p : Position) (r : Search) : Search :=
  let mode := if r.index then indexMode p.index p.counter r.count else r.mode
  { r with mode := mode, direction := match mode with
      | .target t => directionOf (t - p.counter)
      | .counting _ => directionOf r.count }

/-- The search record replaced. -/
def setSearch (r : Option Search) (s : State) : State := s.modPosition fun p => { p with search := r }

/-- A search begins from the present state (R48, R49, R50). -/
def beginSearch (r : Search) (s : State) : State :=
  let r := r.planned s.position
  match r.mode with
  | .counting _ => searchMove (windOf r.direction) (setSearch (some { r with phase := .wind }) s)
  | .target t =>
    if t = s.position.counter then searchFound r (setSearch (some r) s)
    else if distance t s.position.counter ≤ s.approachDistance then
      searchMove (scanOf r.direction) (setSearch (some { r with phase := .approach }) s)
    else searchMove (windOf r.direction) (setSearch (some { r with phase := .wind }) s)

/-- A search waiting in phase THREAD begins when threading has completed into STOP, and ends ABORTED when the transport
came to rest elsewhere (R51). -/
def searchThreaded (s : State) : State :=
  match s.position.search with
  | some r =>
    if r.phase = .thread then
      if s.transport.state = .stop then beginSearch r s else endSearch .aborted s
    else s
  | none => s

/-- Steps 6 of R47. -/
def searchState (t : TState) : Option Refuse :=
  match t with
  | .empty => some .noCassette
  | .inserting | .threading | .unthreading | .ejecting => some .busy
  | .record | .recPause => some .wrongState
  | _ => none

/-- The judging of a search request (R47); `r` is none when the argument is refused. -/
def judgeSearch (s : State) (rank : Rank) (r : Option Search) : Except Refuse Search :=
  match lockedOrOff s rank with
  | some why => .error why
  | none =>
    if s.transport.state = .fault then .error .fault
    else if holderRefuses s.transport.holder rank false then .error .rank
    else
      match r with
      | none => .error .badArg
      | some r =>
        match searchState s.transport.state with
        | some why => .error why
        | none =>
          let f := s.protection.faults
          let r := r.planned s.position
          if f.reelStall || f.windOverload || f.drumFault then .error .fault
          else if r.direction.isSome && s.pins.edgeToward (windOf r.direction) then .error .tapeEnd
          else .ok r

/-- A search request, judged, and begun or threaded for (R47, R51). -/
def requestSearch (l : Link) (rank : Rank) (r : Option Search) (s : State) : Answered :=
  match judgeSearch s rank r with
  | .error why => refuse why s
  | .ok r =>
    let s := acceptFrom l rank true s
    accept (releaseAtRest
      (if s.transport.state = .parked then thread .stop (setSearch (some { r with phase := .thread }) s)
       else beginSearch r s))

/-- The record of a SEARCH_COUNTER, none where the target lies outside the range (R48). -/
def counterSearch (s : State) (l : Link) (rank : Rank) (arg : Arg) : Option Search :=
  match searchCounterFields arg with
  | some (play, target) =>
    if -s.counterBound ≤ target ∧ target ≤ s.counterBound then
      some { index := false, count := 0, mode := .target target, direction := none, phase := .wind, endPlay := play,
             rank := rank, link := l }
    else none
  | none => none

/-- The record of a SEARCH_INDEX, none for a count of 0 or of magnitude above 20 (R49). -/
def indexSearch (l : Link) (rank : Rank) (arg : Arg) : Option Search :=
  if 1 ≤ arg.toInt.natAbs ∧ arg.toInt.natAbs ≤ 20 then
    some { index := true, count := arg.toInt, mode := .counting arg.toInt.natAbs, direction := none, phase := .wind,
           endPlay := true, rank := rank, link := l }
  else none

/-! ## After a counted pulse -/

/-- A search judged after a counted pulse: from WIND to APPROACH, or FOUND in APPROACH (R48). -/
def judgeSearchTarget (s : State) : State :=
  match s.position.search with
  | none => s
  | some r =>
    match r.mode, r.phase with
    | .target t, .wind =>
      if distance t s.position.counter ≤ s.approachDistance then
        searchMove (scanOf r.direction) (setSearch (some { r with phase := .approach }) s)
      else s
    | .target t, .approach => if t = s.position.counter then searchFound r s else s
    | _, _ => s

/-- A detected mark counted by a search in COUNTING mode in the wind states (R50). -/
def countMark (s : State) : State :=
  match s.position.search with
  | none => s
  | some r =>
    match r.mode with
    | .target _ => s
    | .counting n =>
      if s.transport.state.winding ∧ r.phase = .wind then
        if n ≤ 1 then searchFound r s else setSearch (some { r with mode := .counting (n - 1) }) s
      else s

/-- The states in which a mark is detected (R43). -/
def TState.detects (t : TState) : Bool :=
  match t with
  | .play | .cue | .review | .fwind | .rwind => true
  | _ => false

/-- A mark read with the pulse: offered to the index list, then counted by a search (R43, R50). -/
def detectMark (mark : Bool) (s : State) : State :=
  if mark && s.transport.state.detects then countMark (offerMark s) else s

/-- The pending mark written with a pulse counted in RECORD: the strobe, and the offer (R42). -/
def writeMark (s : State) : State :=
  let write := s.position.pendingMark && s.transport.state == .record
  let s := s.modOutputs fun o => { o with strobe := write }
  if write then (offerMark s).modPosition fun p => { p with pendingMark := false } else s

/-- Whether a counted pulse brings a wind to the counter's zero (R41). -/
def reachesZero (t : TState) (before after : Int) : Bool :=
  after == 0 && ((t == .fwind && before == -1) || (t == .rwind && before == 1))

/-- Memory stop (R41). -/
def memoryStops (s : State) : State :=
  let link := s.transport.holder.link?
  let s := s.modPosition fun p => { p with lastEnding := some ⟨.memory, .found, 0, link⟩ }
  askStop (raise .searchEnd s)

/-- A control-track pulse: counted first, then a mark written or taken, then a running search judged, or memory stop
(R37, R41, R42, R43, R48, R50). -/
def controlTrackPulse (mark : Bool) (s : State) : State :=
  if s.inHold then s
  else if s.position.direction = .atRest then s.modOutputs fun o => { o with strobe := false }
  else
    let before := s.position.counter
    let searching := s.position.search.isSome
    let s := s.modPosition fun p =>
      { p with counter := countedIn s.counterBound p.direction p.counter, trackPresent := true }
    let s := judgeSearchTarget (detectMark mark (writeMark s))
    if s.position.memoryStop && !searching && reachesZero s.transport.state before s.position.counter then memoryStops s
    else s

/-! ## The requests of the Position Counter -/

/-- RESET_COUNTER on the record, the list and a running search (R39). -/
def resetCounter (s : State) : State :=
  let c := s.position.counter
  let bound := s.counterBound
  let s := s.modPosition (Position.rezeroed bound)
  match s.position.search with
  | none => s
  | some r =>
    let mode := r.mode.shifted c
    if mode.inRange bound then setSearch (some { r with mode := mode }) s
    else askStop (endSearch .aborted s)

/-- A change of *system standard* (R40): the search's ending leaves the transport in STOP (R52). -/
def standardChanged (s : State) : State :=
  let running := s.position.search.isSome
  let s := endSearch .aborted (s.modPosition fun p => { p with counter := 0, index := [], pendingMark := false })
  if running then askStop s else s

end Sys2Proof.Machine
end

