-- ==== Sys2Proof/Machine/EventTable.lean ====
section
/-!
DEFINITION. The event table (R127 to R131, R139 to R142) and the due list it gives (R147): occurrences, next
occurrences, conflict flags, and the one write of a slot.
-/

namespace Sys2Proof.Machine

/-! ## Occurrences (R129, R130) -/

/-- The start instant of the occurrence of a definition on a day. -/
def EventDef.startOn (e : EventDef) (day : Nat) : Nat := day * 1440 + e.start

/-- The stop instant; a stop minute before the start minute lies on the next day. -/
def EventDef.stopOn (e : EventDef) (day : Nat) : Nat :=
  (if e.start < e.stop then day else day + 1) * 1440 + e.stop

/-- Whether the occurrence on a day exists: a day of the clock's range, its stop not beyond the last epoch minute. -/
def EventDef.existsOn (e : EventDef) (day : Nat) : Bool :=
  decide (day < Config.calendarDays ∧ e.stopOn day ≤ Config.lastEpochMinute)

/-- Whether a day is a candidate date (R130). -/
def EventDef.candidate (e : EventDef) (day : Nat) : Bool :=
  match e.rep, e.date with
  | .once, .calendar d => d.valid && dayNumber d == day
  | .once, _ => false
  | .daily, _ => true
  | .weekdays, _ => decide (weekdayOf day ≤ 4)
  | .weekly, .weekday n => weekdayOf day == n
  | .weekly, _ => false

/-- Whether a day is later than the last served date, or none is held (R131). -/
def laterThan (served : Option Nat) (day : Nat) : Bool :=
  match served with
  | none => true
  | some d => decide (d < day)

/-- The first of `n` days from `day` that passes a test. -/
def firstDay (ok : Nat → Bool) : (n day : Nat) → Option Nat
  | 0, _ => none
  | n + 1, day => if ok day then some day else firstDay ok n (day + 1)

/-- The last of `n` days counted back from `day` that passes a test. -/
def lastDay (ok : Nat → Bool) : (n day : Nat) → Option Nat
  | 0, _ => none
  | n + 1, day => if ok day then some day else if day = 0 then none else lastDay ok n (day - 1)

/-- The day of a ONCE definition's date. -/
def EventDef.onceDay (e : EventDef) : Option Nat :=
  match e.rep, e.date with
  | .once, .calendar d => some (dayNumber d)
  | _, _ => none

/-- Whether a day holds an occurrence of the definition, later than the last served date. -/
def EventDef.offers (e : EventDef) (served : Option Nat) (day : Nat) : Bool :=
  e.candidate day && laterThan served day && e.existsOn day

/-- The day of the next occurrence at the present minute (R131): the search begins with the later of the day before
today and the day after the last served date. Nine days hold a WEEKLY slot's next date even when today's occurrence has
stopped (log entry 38). -/
def EventDef.nextDay (e : EventDef) (served : Option Nat) (now : Nat) : Option Nat :=
  let ok := fun day => e.offers served day && decide (now < e.stopOn day)
  match e.onceDay with
  | some day => if ok day then some day else none
  | none =>
    let afterServed := match served with
      | some d => d + 1
      | none => 0
    firstDay ok 9 (max (now / 1440 - 1) afterServed)

/-- The day of the latest occurrence, later than the last served date, whose stop has passed (R148). -/
def EventDef.latestPassed (e : EventDef) (served : Option Nat) (now : Nat) : Option Nat :=
  let ok := fun day => e.offers served day && decide (e.stopOn day ≤ now)
  match e.onceDay with
  | some day => if ok day then some day else none
  | none => lastDay ok 9 (now / 1440)

/-! ## Slots -/

/-- The slot of a number 0..31. -/
def State.slot (s : State) (i : Nat) : Slot := s.slots.getD i .factory

/-- Whether slot `i` holds the current occurrence (R135, R138, R147); an occurrence whose slot was deleted belongs to
none. -/
def State.isCurrent (s : State) (i : Nat) : Bool :=
  match s.engine.current with
  | some o => o.slot == i && !o.orphan
  | none => false

/-- Whether two slots differ in a field other than the version and the conflict flag (R128). -/
def Slot.differs (a b : Slot) : Bool :=
  { a with version := 0, conflict := false } != { b with version := 0, conflict := false }

/-! ## The due list (R147) -/

/-- The rank of an owner; an absent owner sorts as rank 2. -/
def ownerRank (o : Option (Link × Rank)) : Rank :=
  match o with
  | some (_, r) => r
  | none => .automatic

/-- The due-list entry of slot `i`, if it has one. -/
def dueEntry (s : State) (i : Nat) (x : Slot) : Option DueEntry :=
  if x.inUse && x.defn.enabled then
    match x.defn.nextDay x.lastServed s.now with
    | none => none
    | some day =>
      let behind := match s.engine.current with
        | some o => s.isCurrent i && decide (day ≤ o.day)
        | none => false
      if behind then none
      else some ⟨i, day, x.defn.startOn day, x.defn.stopOn day, ownerRank x.owner⟩
  else none

/-- The entries of a table, slot by slot. -/
def dueEntries (s : State) : (i : Nat) → List Slot → List DueEntry
  | _, [] => []
  | i, x :: xs =>
    match dueEntry s i x with
    | some e => e :: dueEntries s (i + 1) xs
    | none => dueEntries s (i + 1) xs

/-- The order of the due list: by start instant, then user before automatic, then the lower slot number. -/
def DueEntry.before (a b : DueEntry) : Bool :=
  if a.start ≠ b.start then decide (a.start < b.start)
  else if a.rank ≠ b.rank then a.rank == .user
  else decide (a.slot < b.slot)

/-- An entry put in its place. -/
def insertDue (e : DueEntry) : List DueEntry → List DueEntry
  | [] => [e]
  | x :: xs => if e.before x then e :: x :: xs else x :: insertDue e xs

/-- The entries in the list's order. -/
def sortDue : List DueEntry → List DueEntry
  | [] => []
  | e :: es => insertDue e (sortDue es)

/-- The due list from the table and the clock; empty while the mode is OFF or the clock UNSET (R147). -/
def dueListOf (s : State) : List DueEntry :=
  if s.engine.mode && s.clock.set then sortDue (dueEntries s 0 s.slots) else []

/-- The engine rebuilds the due list, and has R150 to judge (R147, R150). -/
def rebuild (s : State) : State := s.modEngine fun e => { e with due := dueListOf s, judgeDue := true }

/-! ## Conflict flags (R141, R142) -/

/-- The days whose occurrences may lie in the horizon: from the day before today to the seventh day on. -/
def horizonDays (now : Nat) : List Nat := (List.range 9).map (· + (now / 1440 - 1))

/-- The windows of slot `i` in the horizon (R141). -/
def horizonWindows (s : State) (i : Nat) (x : Slot) : List (Nat × Nat) :=
  if x.inUse && x.defn.enabled then
    let current := fun day => match s.engine.current with
      | some o => s.isCurrent i && o.day == day
      | none => false
    let days := (horizonDays s.now).filter fun day =>
      ((x.defn.candidate day && laterThan x.lastServed day) || current day) && x.defn.existsOn day &&
        decide (s.now < x.defn.stopOn day ∧ x.defn.startOn day < s.now + Config.conflictHorizon)
    days.map fun day => (x.defn.startOn day, x.defn.stopOn day)
  else []

/-- Whether two windows overlap: each starts before the other stops. -/
def overlap (a b : Nat × Nat) : Bool := decide (a.1 < b.2 ∧ b.1 < a.2)

/-- Whether two slots' windows conflict. -/
def windowsMeet (xs ys : List (Nat × Nat)) : Bool := xs.any fun a => ys.any fun b => overlap a b

/-- The windows of every slot. -/
def allWindows (s : State) : (i : Nat) → List Slot → List (List (Nat × Nat))
  | _, [] => []
  | i, x :: xs => horizonWindows s i x :: allWindows s (i + 1) xs

/-- The conflict flag of each slot: whether its windows meet those of some other slot. -/
def conflictFlags (ws : List (List (Nat × Nat))) : List Bool :=
  (List.range ws.length).map fun i =>
    (List.range ws.length).any fun j => i != j && windowsMeet (ws.getD i []) (ws.getD j [])

/-- The table with its conflict flags computed (R141). -/
def flagged (s : State) : List Slot :=
  s.slots.zipWith (fun x c => { x with conflict := c }) (conflictFlags (allWindows s 0 s.slots))

/-- The conflict flags computed; EVENT_TABLE is raised when any turns on or off (R142). -/
def computeFlags (s : State) : State :=
  let t := flagged s
  raiseIf (t.map Slot.conflict != s.slots.map Slot.conflict) .eventTable (s.modSlots fun _ => t)

/-! ## The write of a slot (R128) -/

/-- A write of slot `i`: a change advances the version, marks EVENTS dirty, has the due list rebuilt, computes the flags
and raises EVENT_TABLE; a write that changes nothing does nothing (R128). -/
def writeSlot (i : Nat) (x : Slot) (s : State) : State :=
  let old := s.slot i
  if old.differs x then
    let s := s.modSlots fun t => t.set i { x with version := (old.version + 1) % 256, conflict := old.conflict }
    raise .eventTable (computeFlags (rebuild (markDirty .events s)))
  else s

/-- A last served date never moves earlier (R139). -/
def servedAt (day : Nat) (held : Option Nat) : Option Nat :=
  match held with
  | none => some day
  | some d => some (max d day)

/-- Serving (R139): the last served date. A write that reaches a free slot is not taken. -/
def serveSlot (i day : Nat) (s : State) : State :=
  let x := s.slot i
  if x.inUse then writeSlot i { x with lastServed := servedAt day x.lastServed } s else s

/-- Judging (R139): the outcome, the last served date, and enabled off for ONCE. -/
def judgeSlot (i : Nat) (o : OutcomeRecord) (s : State) : State :=
  let x := s.slot i
  if x.inUse then
    writeSlot i { x with outcome := some o
                         lastServed := servedAt o.day x.lastServed
                         defn := { x.defn with enabled := x.defn.enabled && x.defn.rep != .once } } s
  else s

/-! ## Windows that have passed (R148) -/

/-- The slots of the due entries whose stop instants have passed. -/
def passedSlots (s : State) : List Nat :=
  (s.engine.due.filter fun e => decide (e.stop ≤ s.now)).map DueEntry.slot

/-- One slot judged MISSED for its latest passed occurrence, with TIMER_END (R148). -/
def judgeMissed (why : MissedReason) (i : Nat) (s : State) : State :=
  let x := s.slot i
  match x.defn.latestPassed x.lastServed s.now with
  | some day => raise .timerEnd (judgeSlot i ⟨.missed why, day, none, 0⟩ s)
  | none => s

/-- Slots judged MISSED one after the other, the list then rebuilt when any was (R148). -/
def judgeMissedAll (why : MissedReason) (slots : List Nat) (s : State) : State :=
  match slots with
  | [] => s
  | i :: is => judgeMissedAll why is (judgeMissed why i s)

/-- The due list judged for windows that have passed, with the reason of the moment (R148). -/
def judgePassed (why : MissedReason) (s : State) : State := judgeMissedAll why (passedSlots s) s

end Sys2Proof.Machine
end

