-- ==== Sys2Proof/Machine/Engine.lean ====
section
/-!
DEFINITION. The Timer Engine (R143 to R165): the current occurrence from its coming due to its ending, the clock's
reports to it, and the loop that carries out what stands due within one step.
-/

namespace Sys2Proof.Machine

/-! ## The current occurrence (R149) -/

/-- A due-list entry made current, in WATCH (R149, R150). -/
def Occurrence.ofDue (e : DueEntry) : Occurrence :=
  { slot := e.slot, day := e.day, start := e.start, stop := e.stop, phase := .watch, speed := none, label := .none,
    labelsSeen := false, lastLabel := none, actualStart := none, recorded := 0, noted := none, powerRaised := false,
    silence := false, extension := none, held := false, orphan := false, startDue := false, handover := false,
    startSent := false, resumeDue := false }

/-- What TIMER_STATE tells of the current occurrence: its presence, its phase and its label state (R143). -/
def timerShows (o : Option Occurrence) : Option (Phase × LabelState) := o.map fun o => (o.phase, o.label)

/-- The current occurrence replaced or removed; TIMER_STATE is raised when what it tells of changes (R143). -/
def setCurrent (o : Option Occurrence) (s : State) : State :=
  raiseIf (timerShows s.engine.current != timerShows o) .timerState (s.modEngine fun e => { e with current := o })

/-- The current occurrence updated; TIMER_STATE is raised when its phase or label state changes (R143). -/
def updateOccurrence (f : Occurrence → Occurrence) (s : State) : State :=
  match s.engine.current with
  | none => s
  | some o =>
    raiseIf ((f o).phase != o.phase || (f o).label != o.label) .timerState
      (s.modEngine fun e => { e with current := some (f o) })

/-- A partial reason is noted once (R149). -/
def Occurrence.note (n : Noted) (o : Occurrence) : Occurrence := { o with noted := o.noted <|> some n }

/-- Recording has begun once the actual start is present (R149). -/
def Occurrence.begun (o : Occurrence) : Bool := o.actualStart.isSome

/-- Minutes recorded (R149). -/
def Occurrence.minutes (o : Occurrence) : Nat := min (o.recorded / 600 / 60) 1439

/-- Whether the occurrence's slot has label control ON. -/
def State.labelled (s : State) (o : Occurrence) : Bool := (s.slot o.slot).defn.label != .off

/-- The outcome kind of a noted reason (R149). -/
def Noted.verdict : Noted → Verdict
  | .lateStart => .partly .lateStart
  | .power => .partly .power
  | .tapeEnd => .partly .tapeEnd
  | .fault => .partly .fault

/-- The outcome of an ending without a reason of its own (R149). -/
def Occurrence.natural (o : Occurrence) : Verdict :=
  if o.label = .matched ∧ o.begun = false then .missed .labelAbsent
  else match o.noted with
    | some n => n.verdict
    | none => .recorded

/-- The outcome of an ending with a partial reason at the scheduled stop, the extension's end or a yielding (R149). -/
def Occurrence.endedBy (why : PartialReason) (o : Occurrence) : Verdict :=
  if o.label = .matched ∧ o.begun = false then .missed .labelAbsent else .partly why

/-- The outcome of an ending that a failure causes: PARTIAL when recording has begun, MISSED when it has not (R162,
R163). -/
def Occurrence.cutShort (begun : PartialReason) (before : MissedReason) (o : Occurrence) : Verdict :=
  if o.begun then .partly begun else .missed before

/-- The speed of a slot whose occurrence never chose one: the fixed speed, or *auto fallback speed* (R159). -/
def State.presumedSpeed (s : State) (o : Occurrence) : Speed :=
  match (s.slot o.slot).defn.speed with
  | .sp => .sp
  | .lp => .lp
  | .ep => .ep
  | .auto => s.settings.fallbackSpeed

/-- The outcome record of an ending (R140, R159). -/
def outcomeOf (s : State) (o : Occurrence) (v : Verdict) : OutcomeRecord :=
  let speed := match v with
    | .missed _ => none
    | .stoppedByUser => o.speed
    | _ => some (o.speed.getD (s.presumedSpeed o))
  { verdict := v, day := o.day, speed := speed, minutes := o.minutes }

/-- The outcome written into the slot, unless the slot was deleted, and TIMER_END raised (R138, R139, R143). -/
def writeOutcome (o : Occurrence) (v : Verdict) (s : State) : State :=
  raise .timerEnd (if o.orphan then s else judgeSlot o.slot (outcomeOf s o v) s)

/-! ## Ending (R159) -/

/-- Steps 1 and 2 of an ending: phase ENDING, Stop and Park when the transport is held, the outcome. An occurrence that
is ending already is left as it is. -/
def endOccurrence (v : Verdict) (s : State) : State :=
  match s.engine.current with
  | none => s
  | some o =>
    if o.phase = .ending then s
    else
      let s := updateOccurrence
        (fun o => { o with phase := .ending, silence := false, startDue := false, resumeDue := false }) s
      let s := if o.held then transportPark (transportStop s) else s
      writeOutcome o v s

/-! ## The start (R152 to R154) -/

/-- The speed chosen (R153). -/
def chooseSpeed (s : State) (o : Occurrence) : Speed :=
  match (s.slot o.slot).defn.speed with
  | .sp => .sp
  | .lp => .lp
  | .ep => .ep
  | .auto =>
    match s.gauge.estimate, s.gauge.remainingSp with
    | .none, _ => s.settings.fallbackSpeed
    | _, none => s.settings.fallbackSpeed
    | _, some r =>
      let needed := 60 * (o.stop - s.now)
      if needed ≤ r then .sp else if needed ≤ 2 * r then .lp else .ep

/-- The start checks (R152). -/
def startCheck (s : State) (o : Occurrence) : Option MissedReason :=
  if s.transport.state = .empty ∨ s.transport.state = .ejecting then some .noCassette
  else if s.transport.tab ≠ .present then some .noTab
  else if s.pins.tapeEnd then some .tapeEnd
  else if ¬ (s.preset (s.slot o.slot).defn.preset).stored then some .noPreset
  else if s.protection.faults.jam || s.protection.faults.reelStall || s.protection.faults.drumFault then some .fault
  else none

/-- The Record request with a speed and a mark flag; where the transport accepts it the occurrence is updated (R7). -/
def sendRecord (v : Speed) (mark : Bool) (f : Occurrence → Occurrence) (s : State) : State :=
  match transportRecord v mark s with
  | some s => updateOccurrence f s
  | none => s

/-- The Record request of a start: with the mark flag; in a handover after the Retune, and after a Stop when the speed
changes (R152, R158). -/
def sendStart (handover : Bool) (o : Occurrence) (v : Speed) (s : State) : State :=
  let s := updateOccurrence (fun o => { o with speed := some v, startDue := false, handover := false }) s
  let s := if handover then tunerRetune (s.slot o.slot).defn.preset s else s
  let s := if handover ∧ v ≠ s.transport.recordSpeed then transportStop s else s
  sendRecord v true (fun o => { o with phase := .recording, startSent := true }) s

/-- The start judged: MISSED, or the speed chosen and the Record request sent (R152). -/
def judgeStart (handover : Bool) (o : Occurrence) (s : State) : State :=
  match startCheck s o with
  | some why => endOccurrence (.missed why) s
  | none => sendStart handover o (chooseSpeed s o) s

/-- The moments of R152 and R156 at which the clock stands at or past the start in WATCH: a slot without label control
or in FALLBACK has its start judged; with no label seen the label state becomes FALLBACK first. With labels seen and the
label state NONE, and with MATCHED, the clock judges no start: so R156 has it at the start instant, and so the model has it
too where R163 and R164 say that a start which passed in HOLD, or in a forward step, is judged (model's choice, log
entry 55). -/
def startReached (o : Occurrence) (s : State) : State :=
  if s.labelled o && o.label != .fallback then
    if o.label = .none ∧ o.labelsSeen = false then
      updateOccurrence (fun o => { o with label := .fallback, startDue := true }) s
    else s
  else updateOccurrence (fun o => { o with startDue := true }) s

/-- Recording begins: the actual start, TIMER_START, and a late start noted for a start by the clock (R154). -/
def recordingBegins (o : Occurrence) (s : State) : State :=
  let late := o.label != .matched && decide (o.start < s.now)
  let s := updateOccurrence
    (fun o => let o := { o with actualStart := some s.clock.now }
              if late then o.note .lateStart else o) s
  raise .timerStart s

/-- The Record request sent with the mark flag clear, at the speed chosen (R154); the phase becomes RECORDING whether the
transport takes the request or, in RECORD already, has no need of it (R155, R156, log entry 26). Where no Record request of
the occurrence has been sent, as at a restore in LABEL_PAUSED before its start, its speed is chosen by R153 now unless it has
been (R163, log entry 23). -/
def recordAgain (s : State) : State :=
  match s.engine.current with
  | none => s
  | some o =>
    let first := !(o.begun || o.startSent)
    let v := o.speed.getD (if first then chooseSpeed s o else s.presumedSpeed o)
    let s := updateOccurrence
      (fun o => { o with phase := .recording, resumeDue := false, startSent := o.startSent || !o.begun,
                         speed := if first then some v else o.speed }) s
    (transportRecord v false s).getD s

/-! ## Coming due (R150, R151) -/

/-- The lead of an entry (R150). -/
def leadOf (s : State) (e : DueEntry) : Nat :=
  if (s.slot e.slot).defn.label = .off then s.settings.lead else s.settings.labelLead

/-- The takes, or WAITING while a user has the transport or searches for a station; a start instant that has passed is
then judged (R150 steps 3 and 4, R151). -/
def tryTakes (o : Occurrence) (s : State) : State :=
  if s.transportBusy || s.tunerBusy then updateOccurrence (fun o => { o with phase := .waiting }) s
  else
    let s := transportTake (tunerTake (s.slot o.slot).defn.preset s)
    let s := updateOccurrence (fun o => { o with phase := .watch, held := true }) s
    if o.start ≤ s.now then startReached o s else s

/-- Steps 1 and 2 of R150: the entry becomes current, its date is served, the power return timer stops, main power is
raised or carried over. -/
def makeCurrent (e : DueEntry) (carried : Bool) (s : State) : State :=
  let s := serveSlot e.slot e.day (setCurrent (some (.ofDue e)) s)
  let carried := carried || (s.isOn && s.engine.powerReturn) || s.power.state == .standby
  let s := timerRaise (s.modEngine fun g => { g with powerReturn := false })
  updateOccurrence (fun o => { o with powerRaised := carried }) s

/-- The head of the due list comes due, with no occurrence current (R150). -/
def comeDue (s : State) : State :=
  match s.engine.due with
  | [] => s
  | e :: _ =>
    if e.start ≤ s.now + leadOf s e then
      let s := makeCurrent e false s
      match s.engine.current with
      | some o => tryTakes o s
      | none => s
    else s

/-! ## The scheduled stop, the extension and the handover (R157, R158) -/

/-- The head of the due list, if its start instant has passed (R158). -/
def headStarted (s : State) : Option DueEntry :=
  match s.engine.due with
  | e :: _ => if e.start ≤ s.now then some e else none
  | [] => none

/-- The handover of `o` to the head of the due list: the yielding occurrence's outcome, the Pause, and the head current
under the holds, with the label state of its start and its start due, which waits for an insertion as any start (R152,
R158). -/
def handOver (o : Occurrence) (e : DueEntry) (s : State) : State :=
  let s := transportPause (writeOutcome o (o.endedBy .yielded) s)
  let label : LabelState := if (s.slot e.slot).defn.label = .off then .none else .fallback
  updateOccurrence (fun n => { n with held := true, label := label, startDue := true, handover := true })
    (makeCurrent e o.powerRaised s)

/-- The clock stands at or past the scheduled stop (R157). -/
def scheduledStop (o : Occurrence) (s : State) : State :=
  match o.label with
  | .matched =>
    match headStarted s with
    | some e => handOver o e s
    | none =>
      let until_ := o.stop + s.settings.extension
      if until_ ≤ s.now then endOccurrence (o.endedBy .extensionLimit) s
      else updateOccurrence (fun o => { o with extension := some until_ }) s
  | .none =>
    if s.labelled o && o.labelsSeen then endOccurrence (.missed .labelAbsent) s else endOccurrence o.natural s
  | .fallback => endOccurrence o.natural s

/-- The current occurrence compared with the clock, at a minute boundary or after a forward step (R151, R152, R157,
R158, R164). An extension that runs is ended by its own instant alone, or by a head of the due list that has started, in
whatever label state: one that a restore has made FALLBACK goes on so, to EXTENSION_LIMIT or YIELDED (model's choice, log
entry 50). An extension never runs before its stop, because a backward step that goes there has ended it
(Occurrence.setBack, log entry 49). A forward step in WATCH goes by an extension that runs, and is MISSED(CLOCK_STEP) past
the scheduled stop only where none runs (model's choice, log entry 57). A head that had started already when a store put it
into the list during the extension is yielded to here, at the next minute boundary or forward step (model's choice, log
entry 59). -/
def clockReached (step : Bool) (s : State) : State :=
  match s.engine.current with
  | none => s
  | some o =>
    match o.phase with
    | .ending => s
    | .waiting =>
      if o.stop ≤ s.now then endOccurrence (.missed (if step then .clockStep else .busy)) s else s
    | p =>
      match o.extension with
      | some e =>
        match headStarted s with
        | some h => handOver o h s
        | none => if e ≤ s.now then endOccurrence (o.endedBy .extensionLimit) s else s
      | none =>
        if o.stop ≤ s.now then
          if step ∧ p = .watch then endOccurrence (.missed .clockStep) s else scheduledStop o s
        else if p = .watch ∧ o.start ≤ s.now then startReached o s
        else s

/-- A store gives the current occurrence a new stop instant, and one that has been reached acts at once as R157 gives (R136,
R161). In WAITING, for which R157 has no case, the occurrence is then MISSED(BUSY) at once, as at the minute boundary of R151
(model's choice, log entry 53). An extension that runs is over, and with the new stop ahead the occurrence is inside its window
again; no rule names its end there (model's choice, log entry 56). -/
def newStop (stop : Nat) (s : State) : State :=
  let s := updateOccurrence (fun o => { o with stop := stop, extension := none }) s
  match s.engine.current with
  | some _ => if stop ≤ s.now then clockReached false s else s
  | none => s

/-! ## The clock's reports (R78, R79, R147, R148, R164) -/

/-- A minute boundary: in HOLD for time alone, and at 00:00 the conflict flags (R142, R148, R150, R163). -/
def minuteBoundary (s : State) : State :=
  let s := if s.clock.now.time.minuteOfDay = 0 then computeFlags s else s
  if s.inHold then s else rebuild (clockReached false (judgePassed .overlap s))

/-- A start that the clock made due in WATCH and that still waits for an insertion. One that a matching RUNNING asked for,
which makes the label state MATCHED, is no clock start (R152, R155, log entry 54). -/
def Occurrence.awaitsClockStart (o : Occurrence) : Bool := o.startDue && o.phase == .watch && o.label != .matched

/-- The occurrence after a backward step to an epoch minute. Before its scheduled stop it is inside its window again, and an
extension that ran is over, so that it comes to its stop by the new clock (R158, R164); at or past the stop the extension
goes on to its end. No rule names the field there (model's choice, log entry 49). Before its start instant a watch whose
clock start waits for an insertion goes on watching until the new clock reaches the start (R164, log entry 54). -/
def Occurrence.setBack (minute : Nat) (o : Occurrence) : Occurrence :=
  { o with
    extension := if minute < o.stop then none else o.extension
    startDue := o.startDue && !(o.awaitsClockStart && decide (minute < o.start)) }

/-- A clock step: forward the occurrence is compared with the clock, backward it goes on by the new clock (R142, R164). -/
def clockStep (old new : Nat) (s : State) : State :=
  let s := if old < new then clockReached true (judgePassed .clockStep s)
    else updateOccurrence (Occurrence.setBack new) s
  computeFlags (rebuild s)

/-- A new time applied: written, SET, a step when the minute changed, CLOCK raised (R79). -/
def applyTime (x : DateTime) (sub : Nat) (s : State) : State :=
  let old := s.now
  let s := s.modClock fun c => { c with now := x, subSecond := sub, set := true }
  let s := if s.now = old then s else clockStep old s.now s
  raise .clock s

/-- A pending correction applied at an ending, within the clock's range (R88). -/
def applyCorrection (s : State) : State :=
  match s.clock.correction with
  | none => s
  | some k =>
    let second := (saturate 0 lastSecond (epochSecond s.clock.now + k)).toNat
    (applyTime (dateTimeOf second) s.clock.subSecond s).modClock fun c => { c with correction := none }

/-- Steps 3 to 6 of an ending (R159). -/
def finishEnding (o : Occurrence) (s : State) : State :=
  let s := if o.held then tunerRelease (transportRelease s) else s
  let s := judgeSwitchOff (setCurrent none s)
  let s := applyCorrection s
  let s := if o.powerRaised then s.modEngine fun e => { e with powerReturn := true } else s
  rebuild (judgePassed .overlap s)

/-! ## What stands due within a step -/

/-- What the current occurrence has to do next, by its phase and the state of the blocks it uses. The Record request that a
restore has made due goes out when the transport stands in PARKED, at the recovery's end or, where that ended in EMPTY or
FAULT, whenever the transport next comes there (R163; model's choice, log entry 47). -/
def occurrenceAction (o : Occurrence) (s : State) : Option State :=
  if o.phase = .ending then
    if o.held = false ∨ s.transport.state.resting then some (finishEnding o s) else none
  else if o.phase = .waiting then
    if ¬ s.transportBusy ∧ ¬ s.tunerBusy ∧ s.now < o.stop then some (tryTakes o s) else none
  else if o.startDue ∧ s.transport.state ≠ .inserting then some (judgeStart o.handover o s)
  else if o.startSent ∧ o.begun = false ∧ s.transport.state = .record then some (recordingBegins o s)
  else if o.resumeDue ∧ s.transport.state = .parked then some (recordAgain s)
  else none

/-- The next action of the engine, none when nothing stands due. In HOLD it begins no watch, judges no start and makes no
ending (R163). -/
def engineAction (s : State) : Option State :=
  if s.inHold then none
  else
    match s.engine.current with
    | some o => occurrenceAction o s
    | none => if s.engine.judgeDue then some (comeDue (s.modEngine fun e => { e with judgeDue := false })) else none

/-- The engine's actions carried out until none stands due, `fuel` at most (log entry 12). -/
def runEngine : (fuel : Nat) → State → State
  | 0, s => s
  | n + 1, s =>
    match engineAction s with
    | some s' => runEngine n s'
    | none => s

/-! ## Reports of the other blocks -/

/-- A user stop: STOP or POWER OFF, a deletion, TIMER_ON_OFF with 0 (R161). -/
def userStop (s : State) : State := endOccurrence .stoppedByUser s

/-- The current occurrence notes a reason when recording has begun, and ends (R149, R162); one that is ending is left as it
is. -/
def endNoting (n : Noted) (v : Verdict) (s : State) : State :=
  endOccurrence v (updateOccurrence (fun o => if o.begun ∧ o.phase ≠ .ending then o.note n else o) s)

/-- A jam, REEL_STALL or DRUM_FAULT latched under TIMER after the start's Record request (R162). -/
def faultUnderTimer (s : State) : State :=
  match s.engine.current with
  | some o =>
    if s.transport.holder = .timer ∧ o.startSent then endNoting .fault (o.cutShort .fault .fault) s else s
  | none => s

/-- The tape-end edge in RECORD under TIMER, noted PARTIAL(TAPE_END) (R27, R162). -/
def edgeUnderTimer (s : State) : State := endNoting .tapeEnd (.partly .tapeEnd) s

/-- The record-pause limit under TIMER: in LABEL_PAUSED the phase stays, otherwise recording resumes (R162). -/
def recPauseLimitUnderTimer (s : State) : State :=
  match s.engine.current with
  | some o =>
    if s.transport.holder = .timer ∧ o.phase ≠ .labelPaused ∧ o.phase ≠ .ending then recordAgain s else s
  | none => s

/-- At mains loss: PARTIAL(POWER) noted when recording has begun, the silence timer and the power return timer stopped
(R163). -/
def engineLoss (s : State) : State :=
  let s := updateOccurrence (fun o => let o := { o with silence := false }
                                      if o.begun then o.note .power else o) s
  s.modEngine fun e => { e with powerReturn := false }

/-- The stop instant a restore judges by: the extension's end where an extension runs (R163, log entry 23), in the label
state FALLBACK of an earlier restore too (model's choice, log entry 50). Where none runs it is the scheduled stop, in MATCHED
too: no extension begins in HOLD (model's choice, log entry 60). -/
def Occurrence.effectiveStop (o : Occurrence) : Nat := o.extension.getD o.stop

/-- The current occurrence at mains restore (R163): in RECORDING or LABEL_PAUSED the Record request waits until recovery has
parked (log entries 23 and 47), and a watch whose start has passed does what startReached says (log entry 55); one that is
ending already is left as it is (log entry 44). -/
def restoreOccurrence (o : Occurrence) (s : State) : State :=
  if o.phase = Phase.ending then s
  else if o.effectiveStop ≤ s.now then endOccurrence (o.cutShort .power .power) s
  else
    let s := timerResume s
    match o.phase with
    | .recording | .labelPaused =>
      updateOccurrence (fun o => { o with label := if o.label = .matched then .fallback else o.label,
                                          resumeDue := true, startDue := false }) s
    | .watch => if o.start ≤ s.now then startReached o s else s
    | _ => s

/-- The engine at mains restore: the occurrence, then the windows that passed during HOLD, then the list (R163). -/
def engineRestore (s : State) : State :=
  let passed := passedSlots s
  let s := match s.engine.current with
    | some o => restoreOccurrence o s
    | none => s
  rebuild (judgeMissedAll .power passed s)

/-- The engine at a line reset (R165): the outcome PARTIAL(RESET), no occurrence, the lock clear, the timer stopped, the
mode from the setting. -/
def engineLineReset (s : State) : State :=
  let s := match s.engine.current with
    | some o => setCurrent none (writeOutcome o (.partly .reset) s)
    | none => s
  let changed := s.engine.lock || s.engine.mode != s.settings.timerOn
  let s := s.modEngine fun e => { e with lock := false, powerReturn := false, mode := s.settings.timerOn }
  rebuild (raiseIf changed .timerState s)

/-! ## The end of a step -/

/-- The area of a working copy. -/
def AreaCopy.area : AreaCopy → Area
  | .presets _ => .presets
  | .events _ => .events
  | .settings _ => .settings
  | .classes _ => .classes

/-- The areas in the order of the writer's round: after the last written area, wrapping (R176). -/
def roundAfter : Option Area → List Area
  | none => [.presets, .events, .settings, .classes]
  | some .presets => [.events, .settings, .classes, .presets]
  | some .events => [.settings, .classes, .presets, .events]
  | some .settings => [.classes, .presets, .events, .settings]
  | some .classes => [.presets, .events, .settings, .classes]

/-- The working contents of an area. -/
def workingCopy (s : State) : Area → AreaCopy
  | .presets => .presets s.presets
  | .events => .events s.slots
  | .settings => .settings s.settings
  | .classes => .classes s.gauge.classes

/-- An area write starts: the copy taken, the dirty flag off (R176). The stored area changes when the write ends. -/
def startWrite (a : Area) (s : State) : State :=
  s.modStore fun t => { t with dirty := putFlag a false t.dirty, writer := some (workingCopy s a) }

/-- The writer takes the first dirty area of a round (R176). -/
def startRound (round : List Area) (s : State) : State :=
  match round.find? (flagOf s.store.dirty) with
  | some a => startWrite a s
  | none => s

/-- An IDLE writer outside HOLD takes the first dirty area in the fixed order (R176). -/
def startWriter (s : State) : State :=
  if s.inHold || s.store.writer.isSome then s else startRound (roundAfter none) s

/-- The end of a command that touches neither the transport nor the engine: the writer, then the attention lines (R176,
R188). -/
def finish (s : State) : State := judgeAttention (startWriter s)

/-- The end of any other command: a pending switch-off judged, the engine's due actions, the writer, the attention lines
(R171, R176, R188; log entry 11). -/
def settle (s : State) : State := finish (runEngine Config.engineActions (judgeSwitchOff s))

end Sys2Proof.Machine
end

