-- ==== Sys2Proof/Machine/ClockUnit.lean ====
section
/-!
DEFINITION. The Clock Unit (R75 to R90): the running clock, manual setting, the snapshots, and broadcast time.
-/

namespace Sys2Proof.Machine

/-! ## The running clock -/

/-- What an increment of the sub-second count measures besides the clock: the recorded time of the current occurrence and
the one-touch time, both only in RECORD (R12, R149, log entry 13). -/
def countTape (k : Nat) (s : State) : State :=
  if s.transport.state = .record then
    let s := s.modTransport fun t => { t with oneTouch := t.oneTouch.map fun n => max 1 (n - k) }
    s.modEngine fun e => { e with current := e.current.map fun o =>
      { o with recorded := min (o.recorded + k) (Config.maxRecordedSeconds * 600) } }
  else s

/-- An increment of the sub-second and elapsed counts; at 600 the second advances, and a new minute is handed to the
engine. At the last instant of the range the clock holds (R75, R76, R78). -/
def increment (k : Nat) (s : State) : State :=
  let s := countTape k s
  let s := s.modClock fun c => { c with subSecond := c.subSecond + k, elapsed := c.elapsed + k }
  if s.clock.subSecond < 600 then s
  else
    let s := s.modClock fun c => { c with subSecond := c.subSecond - 600 }
    if s.clock.now = lastInstant then s
    else
      let s := s.modClock fun c => { c with now := nextSecond c.now }
      if s.clock.now.time.second = 0 then minuteBoundary s else s

/-- A mains cycle, counted on a MAINS source (R75). -/
def mainsCycle (s : State) : State :=
  if s.clock.source = .mains then increment (if s.settings.mains60 then 10 else 12) s else s

/-- A crystal tick, counted on a CRYSTAL source (R75). -/
def crystalTick (s : State) : State := if s.clock.source = .crystal then increment 1 s else s

/-! ## Manual setting (R80, R81) -/

/-- SET_DATE stages a date on its link. -/
def setDate (l : Link) (arg : Arg) (s : State) : Answered :=
  match dateFields arg.toNat with
  | some d =>
    if d.valid then accept (s.modClock fun c => { c with staged := c.staged.put l (some d) })
    else refuse .badArg s
  | none => refuse .badArg s

/-- A manual set clears the broadcast state. -/
def Clock.setByHand (l : Link) (c : Clock) : Clock :=
  { c with staged := c.staged.put l none, candidate := none, correction := none }

/-- SET_TIME applies a time with the link's staged date, or with the date held. -/
def setTime (l : Link) (arg : Arg) (s : State) : Answered :=
  match timeFields arg.toNat with
  | some t =>
    if t.hour < 24 ∧ t.minute < 60 ∧ t.second < 60 then
      let d := (s.clock.staged.get l).getD s.clock.now.date
      accept (applyTime ⟨d, t⟩ 0 (s.modClock (Clock.setByHand l)))
    else refuse .badArg s
  | none => refuse .badArg s

/-! ## Broadcast time (R84 to R87) -/

/-- Whether a packet of this identity is eligible (R84). -/
def eligible (s : State) (identity : Nat) : Bool :=
  match s.tuner.source with
  | .preset n =>
    let p := s.preset n
    s.settings.autoClock && p.stored && p.timeSource && (p.identity == none || p.identity == some identity)
  | _ => false

/-- The last broadcast verdict written. -/
def setVerdict (v : BroadcastVerdict) (s : State) : State := s.modClock fun c => { c with verdict := v }

/-- Whether a packet agrees with the candidate, to within 1200 units (R86). -/
def Candidate.agrees (c : Candidate) (utc elapsed : Nat) : Bool :=
  decide (distance (600 * ((utc : Int) - c.utc)) ((elapsed : Int) - c.elapsed) ≤ 1200)

/-- Whether a packet is compared with the candidate: the same channel, within 600 s (R86). -/
def Candidate.comparable (c : Candidate) (identity elapsed : Nat) : Bool :=
  c.identity == identity && decide (elapsed - c.elapsed ≤ 360000)

/-- An accepted time, second `local_` of the range: confirmed, applied or deferred (R87). -/
def acceptTime (local_ : Nat) (s : State) : State :=
  let x := dateTimeOf local_
  if s.clock.set ∧ s.clock.now = x then
    setVerdict .confirmed (if s.engine.current.isSome then s.modClock fun c => { c with correction := none } else s)
  else if s.clock.set ∧ s.engine.current.isSome then
    let k := (local_ : Int) - epochSecond s.clock.now
    raise .clock (setVerdict .deferred (s.modClock fun c => { c with correction := some k }))
  else applyTime x 0 (setVerdict .applied s)

/-- A delivered TIME packet (R84 to R87). -/
def broadcastTime (identity : Nat) (utc : DateTime) (offset : Int) (s : State) : State :=
  if ¬ eligible s identity then setVerdict .notEligible s
  else
    let instant := epochSecond utc
    let local_ := (instant : Int) + 900 * offset
    if local_ < 0 ∨ (lastSecond : Int) < local_ then setVerdict .outOfRange s
    else
      let agreed := match s.clock.candidate with
        | some c => c.comparable identity s.clock.elapsed && c.agrees instant s.clock.elapsed
        | none => false
      let s := s.modClock fun c => { c with candidate := some ⟨instant, offset, identity, c.elapsed⟩ }
      if agreed then acceptTime local_.toNat s else setVerdict .candidate s

/-- Turning *auto clock* off drops the candidate and the pending correction (R88, R89). -/
def autoClockOff (s : State) : State := s.modClock fun c => { c with candidate := none, correction := none }

/-- The clock at entry into HOLD: the source is CRYSTAL and the candidate goes (R90). -/
def clockLoss (s : State) : State := chooseSource (dropCandidate s)

/-- The clock at a line reset (R74). -/
def Clock.lineReset (c : Clock) : Clock :=
  { c with staged := ⟨none, none⟩, snapshot := ⟨none, none⟩, candidate := none, correction := none, verdict := .none }

end Sys2Proof.Machine
end

