-- ==== Sys2Proof/Machine/Labels.lean ====
section
/-!
DEFINITION. The Label Receiver's bytes, packets, deliveries and queue (R116 to R123), and what the consumers do with a
packet (R108, R155, R156).
-/

namespace Sys2Proof.Machine

/-! ## Contents (R119, R121, R191) -/

/-- The start byte, the kind codes and the lengths (R191). -/
def startByte : SlicerByte := 0xA7#8
def progKind : SlicerByte := 0x3C#8
def timeKind : SlicerByte := 0x5A#8
def progLength : Nat := 7
def timeLength : Nat := 10

/-- The channel identity of bytes 2 and 3. -/
def identityOf (b2 b3 : SlicerByte) : Nat := b2.toNat * 16 + b3.toNat / 16

/-- The status code of byte 3. -/
def statusOf (b3 : SlicerByte) : ProgStatus :=
  match b3.toNat % 4 with
  | 0 => .running
  | 1 => .paused
  | 2 => .pending
  | _ => .ended

/-- The longest length of an announced month (R119). -/
def longestMonth (month : Nat) : Nat := if month = 2 then 29 else monthLength 1990 month

/-- A PROG packet's contents, none when a field lies outside its range (R119). -/
def parseProg (b2 b3 day month hour minute : SlicerByte) : Option Packet :=
  if 1 ≤ month.toNat ∧ month.toNat ≤ 12 ∧ 1 ≤ day.toNat ∧ day.toNat ≤ longestMonth month.toNat ∧ hour.toNat ≤ 23 ∧
      minute.toNat ≤ 59 then
    some (.prog (identityOf b2 b3) day.toNat month.toNat hour.toNat minute.toNat (statusOf b3))
  else none

/-- A TIME packet's contents, none when a field lies outside its range (R119). -/
def parseTime (b2 b3 year month day hour minute second offset : SlicerByte) : Option Packet :=
  let d : Date := ⟨1990 + year.toNat, month.toNat, day.toNat⟩
  if year.toNat ≤ 99 ∧ d.valid ∧ hour.toNat ≤ 23 ∧ minute.toNat ≤ 59 ∧ second.toNat ≤ 59 ∧ -48 ≤ offset.toInt ∧
      offset.toInt ≤ 56 then
    some (.time (identityOf b2 b3) ⟨d, ⟨hour.toNat, minute.toNat, second.toNat⟩⟩ offset.toInt)
  else none

/-- The contents of a whole packet judged field by field (R119). -/
def parsePacket : List SlicerByte → Option Packet
  | [_, b2, b3, day, month, hour, minute] => parseProg b2 b3 day month hour minute
  | [_, b2, b3, year, month, day, hour, minute, second, offset] =>
    parseTime b2 b3 year month day hour minute second offset
  | _ => none

/-- How the kind byte is judged against the length: none lets the collection go on (R118). -/
def judgeKind (kind : SlicerByte) (length : Nat) : Option Termination :=
  if kind = progKind then (if length = progLength then none else some .badContent)
  else if kind = timeKind then (if length = timeLength then none else some .badContent)
  else some .unknownKind

/-! ## The consumers -/

/-- Identity learning (R108). -/
def learnIdentity (identity : Nat) (s : State) : State :=
  match s.tuner.source with
  | .preset n =>
    let p := s.preset n
    if p.stored && !s.tuner.stale && p.identity.isNone then writePreset n { p with identity := some identity } s else s
  | _ => s

/-- Whether a packet is of the identity of the applied preset (R155). -/
def ofIdentity (s : State) (identity : Nat) : Bool :=
  match s.tuner.source with
  | .preset n => (s.preset n).identity == none || (s.preset n).identity == some identity
  | _ => false

/-- Whether a packet matches the occurrence: its date, and the label time or the start minute (R155). -/
def matchesOccurrence (s : State) (o : Occurrence) (day month hour minute : Nat) : Bool :=
  let d := dateOf o.day
  let e := (s.slot o.slot).defn
  let at_ := match e.label with
    | .on (some (h, m)) => h * 60 + m
    | _ => e.start
  d.day == day && d.month == month && hour * 60 + minute == at_

/-- The effect of a packet of the identity (R155): a matching RUNNING begins or resumes, a matching PAUSED pauses, a
matching ENDED or, once MATCHED, another RUNNING ends the occurrence. A PAUSED that comes while a start waits for an insertion
drops that start (log entry 46). -/
def labelEffect (o : Occurrence) (matching : Bool) (status : ProgStatus) (s : State) : State :=
  match matching, status with
  | true, .running =>
    let s := updateOccurrence (fun o => { o with label := .matched, startDue := o.startDue || !o.begun }) s
    if o.begun && !(o.phase == .recording && s.transport.state == .record) then recordAgain s else s
  | true, .paused =>
    transportPause (updateOccurrence (fun o => { o with label := .matched, phase := .labelPaused, startDue := false }) s)
  | true, .pending => s
  | true, .ended => endOccurrence (if o.begun then o.natural else .missed .labelAbsent) s
  | false, .running =>
    if o.label = .matched then endOccurrence (if o.begun then o.natural else .missed .labelAbsent) s else s
  | false, _ => s

/-- Each packet of the identity restarts the silence timer while the label state is MATCHED (R155, R156). -/
def restartSilence (s : State) : State :=
  updateOccurrence (fun o => { o with silence := o.label == .matched && o.phase != .ending }) s

/-- The engine examines a delivered PROG packet (R155). -/
def examineLabel (identity day month hour minute : Nat) (status : ProgStatus) (s : State) : State :=
  match s.engine.current with
  | none => s
  | some o =>
    let listening := o.phase == .watch || o.phase == .recording || o.phase == .labelPaused
    if listening && s.labelled o && o.label != .fallback && ofIdentity s identity then
      let matching := matchesOccurrence s o day month hour minute
      let s := updateOccurrence (fun o => { o with labelsSeen := true, lastLabel := some s.clock.now }) s
      restartSilence (labelEffect o matching status s)
    else s

/-- The silence timer expires (R156). -/
def silenceExpired (s : State) : State :=
  match s.engine.current with
  | none => s
  | some o =>
    if o.silence then
      let s := updateOccurrence (fun o => { o with silence := false, label := .fallback }) s
      if o.stop ≤ s.now then endOccurrence { o with label := .fallback }.natural s
      else if o.phase = .labelPaused then
        if o.startSent then recordAgain s else updateOccurrence (fun o => { o with startDue := true }) s
      else s
    else s

/-! ## The label queue (R123) -/

/-- A packet offered to the queue: a duplicate of the last queued is turned away, a full queue loses its oldest. -/
def offerLabel (p : Packet) (s : State) : State :=
  if s.receiver.lastQueued = some p then s
  else
    raise .label (s.modReceiver fun r =>
      { r with labels := (if 4 ≤ r.labels.length then r.labels.drop (r.labels.length - 3) else r.labels) ++ [p],
               lastQueued := some p })

/-- A complete packet goes to the tuner, the clock or the engine, and the queue (R122, log entry 22). -/
def deliver (p : Packet) (s : State) : State :=
  match p with
  | .prog identity day month hour minute status =>
    offerLabel p (examineLabel identity day month hour minute status (learnIdentity identity s))
  | .time identity utc offset => offerLabel p (broadcastTime identity utc offset (learnIdentity identity s))

/-! ## Bytes (R116 to R118) -/

/-- A termination without a delivery (R120). -/
def terminate (why : Termination) (s : State) : State := s.modReceiver (Receiver.terminate why)

/-- A content byte with good parity (R118, R119). -/
def collectByte (b : SlicerByte) (c : Collecting) (s : State) : State :=
  let bytes := c.bytes ++ [b]
  let length := c.length.getD 0
  let kindFault := if c.bytes.isEmpty then judgeKind b length else none
  match kindFault with
  | some why => terminate why s
  | none =>
    if bytes.length = length then
      match parsePacket bytes with
      | some p => deliver p (terminate .complete s)
      | none => terminate .badContent s
    else s.modReceiver fun r => { r with collecting := some { c with bytes := bytes }, gapTimer := true }

/-- A byte from the data slicer, with its parity result (R116 to R118); an idle receiver takes none (R115). -/
def slicerByte (b : SlicerByte) (good : Bool) (s : State) : State :=
  if ¬ s.receiver.live then s
  else
    match s.receiver.state with
    | .seekIdle => s.modReceiver fun r => { r with quietTimer := true }
    | .seekStart =>
      if good && b == startByte then
        s.modReceiver fun r =>
          { r with state := .collectLength, collecting := some ⟨none, []⟩, gapTimer := true, quietTimer := false }
      else s.modReceiver fun r => { r with state := .seekIdle, quietTimer := true }
    | .collectLength =>
      if ¬ good then terminate .parity s
      else if 1 ≤ b.toNat ∧ b.toNat ≤ 12 then
        s.modReceiver fun r => { r with state := .collect, collecting := some ⟨some b.toNat, []⟩, gapTimer := true }
      else terminate .overlong s
    | .collect =>
      if ¬ good then terminate .parity s
      else
        match s.receiver.collecting with
        | some c => collectByte b c s
        | none => s

/-- The quiet timer reaches 4 ms (R116). -/
def Receiver.quiet (r : Receiver) : Receiver :=
  if r.quietTimer ∧ r.state = .seekIdle then { r with state := .seekStart, quietTimer := false } else r

/-- The gap timer passes 2 ms (R117, R118). -/
def Receiver.gap (r : Receiver) : Receiver :=
  if r.gapTimer ∧ r.state.collecting = true then r.terminate .timeout else r

end Sys2Proof.Machine
end

