-- ==== Sys2Proof/Machine/StoreUnit.lean ====
section
/-!
DEFINITION. The writer of the Settings Store (R176), the store load (R177) and the settings record (R178).
-/

namespace Sys2Proof.Machine

/-! ## The stored areas (R175)

The spec gives the sum and what each area holds; in which bytes an area holds it is the model's layout (log entry 8). -/

/-- A number in two bytes, the low byte first. -/
def wordBytes (n : Nat) : List Nat := [n % 256, n / 256 % 256]

/-- A value that may be absent: a byte of presence, then its `size` bytes, zeros while it is absent. -/
def optBytes {α : Type} (size : Nat) (f : α → List Nat) : Option α → List Nat
  | some x => 1 :: f x
  | none => 0 :: List.replicate size 0

/-- A flag in one byte. -/
def flagCode (b : Bool) : Nat := if b then 1 else 0

/-- A preset record (R91). -/
def Preset.bytes (p : Preset) : List Nat :=
  [flagCode p.stored] ++ wordBytes p.divider ++ [(p.fine % 256).toNat, flagCode p.aft, flagCode p.skip, p.name.length] ++
    ((List.range 5).map fun i => p.name.getD i 0) ++ optBytes 2 wordBytes p.identity ++
    [flagCode p.timeSource, p.version]

/-- A date field. -/
def DateField.bytes : DateField → List Nat
  | .absent => [0, 0, 0, 0]
  | .calendar d => [1, d.year - 1990, d.month, d.day]
  | .weekday n => [2, n, 0, 0]

/-- A label control. -/
def LabelControl.bytes : LabelControl → List Nat
  | .off => [0, 0, 0]
  | .on none => [1, 0, 0]
  | .on (some (hour, minute)) => [2, hour, minute]

/-- The definition fields of a slot (R127). -/
def EventDef.bytes (e : EventDef) : List Nat :=
  [flagCode e.enabled, e.rep.code] ++ e.date.bytes ++ wordBytes e.start ++ wordBytes e.stop ++ [e.preset, e.speed.code] ++
    e.label.bytes

/-- An outcome record (R140). -/
def OutcomeRecord.bytes (o : OutcomeRecord) : List Nat :=
  [o.verdict.code] ++ optBytes 1 (fun n => [n]) o.verdict.reason? ++ wordBytes o.day ++
    optBytes 1 (fun v => [Speed.code v]) o.speed ++ wordBytes o.minutes

/-- A slot with every field but the conflict flag (R127, R175). -/
def Slot.bytes (x : Slot) : List Nat :=
  [flagCode x.inUse] ++ x.defn.bytes ++ optBytes 2 (fun o => [linkCode o.1, rankCode o.2]) x.owner ++ [x.version] ++
    optBytes 2 wordBytes x.lastServed ++ optBytes 9 OutcomeRecord.bytes x.outcome

/-- A setting as its coded value (R178). -/
def Settings.coded (x : Settings) : Nat → Nat
  | 0 => x.standard.code
  | 1 => flagCode x.mains60
  | 2 => x.timebase.code
  | 3 => x.defaultClass
  | 4 => x.g100
  | 5 => flagCode x.autoRewind
  | 6 => flagCode x.autoPlay
  | 7 => flagCode x.indexWrite
  | 8 => flagCode x.autoClock
  | 9 => x.lead
  | 10 => x.labelLead
  | 11 => x.extension
  | 12 => x.fallbackSpeed.code
  | 13 => x.manualSpeed.code
  | 14 => flagCode x.guideRelays
  | _ => flagCode x.timerOn

/-- The bytes of each area. -/
def presetBytes (t : List Preset) : List Nat := t.flatMap Preset.bytes
def eventBytes (t : List Slot) : List Nat := t.flatMap Slot.bytes
def settingBytes (x : Settings) : List Nat := (List.range 16).flatMap fun n => wordBytes (x.coded n)
def classBytes (t : List Nat) : List Nat := t.flatMap wordBytes

/-- The sum of an area: the total of its bytes modulo 65,536 (R175). -/
def sumOf (bytes : List Nat) : Nat := total bytes % 65536

/-- Whether a stored sum equals the sum of the contents (R177). -/
def Stored.whole {α : Type} (bytes : α → List Nat) (x : Stored α) : Bool := x.sum == sumOf (bytes x.copy)

/-- Contents stored with their sum. -/
def Stored.sealed {α : Type} (bytes : α → List Nat) (copy : α) : Stored α := ⟨copy, sumOf (bytes copy)⟩

/-- An area with a sum that its contents do not have. -/
def Stored.spoilt {α : Type} (bytes : α → List Nat) (x : Stored α) : Stored α :=
  { x with sum := (sumOf (bytes x.copy) + 1) % 65536 }

/-- The areas of a set spoilt. -/
def Nonvolatile.spoil (f : AreaFlags) (n : Nonvolatile) : Nonvolatile :=
  { presets := if f.presets then n.presets.spoilt presetBytes else n.presets
    events := if f.events then n.events.spoilt eventBytes else n.events
    settings := if f.settings then n.settings.spoilt settingBytes else n.settings
    classes := if f.classes then n.classes.spoilt classBytes else n.classes }

/-! ## The writer (R176) -/

/-- What an area write left of the old and the new copy (log entry 8). -/
def residueOf {α : Type} (bytes : α → List Nat) (x : Config.StoreResidue) (written : α) (old : Stored α) : Stored α :=
  match x with
  | .kept => old
  | .written => .sealed bytes written
  | .torn => old.spoilt bytes

/-- The nonvolatile store after the write of a copy ended with a residue. -/
def Nonvolatile.receive (x : Config.StoreResidue) (c : AreaCopy) (n : Nonvolatile) : Nonvolatile :=
  match c with
  | .presets t => { n with presets := residueOf presetBytes x t n.presets }
  | .events t => { n with events := residueOf eventBytes x t n.events }
  | .settings t => { n with settings := residueOf settingBytes x t n.settings }
  | .classes t => { n with classes := residueOf classBytes x t n.classes }

/-- Whether any area is flagged. -/
def anyFlag (f : AreaFlags) : Bool := f.presets || f.events || f.settings || f.classes

/-- The writer goes on with the next dirty area after the last written, outside HOLD (R176). -/
def nextWrite (s : State) : State := if s.inHold then s else startRound (roundAfter s.store.last) s

/-- The store acknowledges the write in flight. -/
def writeAcknowledged (s : State) : State :=
  match s.store.writer with
  | none => s
  | some c =>
    let s := s.modNv (Nonvolatile.receive .written c)
    let s := s.modStore fun t => { t with writer := none, failed := putFlag c.area false t.failed, last := some c.area }
    nextWrite (raiseIf (!anyFlag s.store.dirty) .store s)

/-- No acknowledgement within 250 ms. -/
def writeFailed (s : State) : State :=
  match s.store.writer with
  | none => s
  | some c =>
    let fresh := !flagOf s.store.failed c.area
    let s := { s.modNv (Nonvolatile.receive (Config.storeResidue s.draws) c) with draws := s.draws + 1 }
    let s := s.modStore fun t =>
      { t with writer := none, failed := putFlag c.area true t.failed, dirty := putFlag c.area true t.dirty,
               last := some c.area }
    nextWrite (raiseIf fresh .store s)

/-! ## The load (R177) -/

/-- An area loaded: its copy when the sum is right, the factory defaults otherwise. -/
def loadArea {α : Type} (bytes : α → List Nat) (x : Stored α) (factory : α) : α :=
  if x.whole bytes then x.copy else factory

/-- The areas that fail their sums at a load. -/
def badAreas (n : Nonvolatile) : AreaFlags :=
  { presets := !n.presets.whole presetBytes
    events := !n.events.whole eventBytes
    settings := !n.settings.whole settingBytes
    classes := !n.classes.whole classBytes }

/-- The area of a write in flight, cut short when the backup supply fails (R176). -/
def Store.cutShort (t : Store) : AreaFlags :=
  match t.writer with
  | some c => putFlag c.area true AreaFlags.none
  | none => AreaFlags.none

/-! ## The settings record (R178) -/

/-- The written range of a setting. -/
def settingRange : Nat → Nat × Nat
  | 3 => (0, 7)
  | 4 => (150, 2500)
  | 9 => (1, 15)
  | 10 => (1, 30)
  | 11 => (0, 180)
  | 12 => (0, 2)
  | 13 => (0, 2)
  | _ => (0, 1)

/-- The value taken of a written value: clamped to the nearer bound. -/
def settingTaken (n v : Nat) : Nat := clamp (settingRange n).1 (settingRange n).2 v

/-- A setting replaced by a coded value. -/
def Settings.write (n v : Nat) (x : Settings) : Settings :=
  match n with
  | 0 => { x with standard := if v = 0 then .f25 else .f30 }
  | 1 => { x with mains60 := v != 0 }
  | 2 => { x with timebase := if v = 0 then .mains else .crystal }
  | 3 => { x with defaultClass := v }
  | 4 => { x with g100 := v }
  | 5 => { x with autoRewind := v != 0 }
  | 6 => { x with autoPlay := v != 0 }
  | 7 => { x with indexWrite := v != 0 }
  | 8 => { x with autoClock := v != 0 }
  | 9 => { x with lead := v }
  | 10 => { x with labelLead := v }
  | 11 => { x with extension := v }
  | 12 => { x with fallbackSpeed := speedOfCode v }
  | 13 => { x with manualSpeed := speedOfCode v }
  | 14 => { x with guideRelays := v != 0 }
  | _ => { x with timerOn := v != 0 }

/-- A setting changed: SETTINGS becomes dirty (R175, R178). -/
def changeSetting (n v : Nat) (s : State) : State := markDirty .settings (s.modSettings (Settings.write n v))

/-- The change handed on to the block that reads the setting (R178). -/
def handSetting (n v : Nat) (s : State) : State :=
  match n with
  | 0 => standardChanged s
  | 1 => chooseSource s
  | 2 => chooseSource s
  | 4 => clearEstimate s
  | 8 => if v = 0 then autoClockOff s else s
  | _ => s

/-! ## The engine mode (R144) -/

/-- The mode set: the setting written, TIMER_STATE raised, the list rebuilt. -/
def setMode (on : Bool) (s : State) : State :=
  let s := changeSetting 15 (flagCode on) s
  rebuild (raise .timerState (s.modEngine fun e => { e with mode := on }))

/-- TIMER_ON_OFF; `arg` is 0 or 1, anything else is refused. An OFF with an occurrence current writes its outcome and sets the
mode OFF in the request itself, while the occurrence is still in ENDING: R144's 'then' waits for no park and no release
(model's choice, log entry 58). -/
def timerOnOff (r : Rank) (arg : Nat) (s : State) : Answered :=
  if 1 < arg then refuse .badArg s
  else if r = .automatic then refuse .rank s
  else if arg = 0 ∧ s.engine.lock = true then refuse .locked s
  else if s.engine.mode = (arg == 1) then accept s
  else if arg = 1 then accept (setMode true s)
  else accept (setMode false (userStop s))

/-- WRITE_SETTING (R178). -/
def writeSetting (l : Link) (r : Rank) (number : Selector) (value : Value) (s : State) : Answered :=
  let n := number.toNat
  let v := settingTaken n value.toNat
  if n = 14 ∧ l = .g then refuse .rank s
  else if n = 15 then
    match timerOnOff r v s with
    | (.refuse why, s') => (.refuse why, s')
    | (.reply _, s') => acceptWrite number v s'
  else if s.settings.coded n = v then acceptWrite number v s
  else acceptWrite number v (handSetting n v (changeSetting n v s))

end Sys2Proof.Machine
end

