-- ==== Sys2Proof/Machine/Timer.lean ====
section
/-!
DEFINITION. The requests that reach the Timer Engine and the Power Supervisor (R145, R160, R170), and the expiry of the
power return timer.
-/

namespace Sys2Proof.Machine

/-- The checks of a lock request, from step 2 (R145). -/
def lockRefusal (s : State) (r : Rank) : Option Refuse :=
  if r = .automatic then some .rank
  else if s.engine.mode = false then some .wrongState
  else if s.clock.set = false then some .clockUnset
  else if s.transport.state = .empty ∨ s.transport.state = .inserting ∨ s.transport.state = .ejecting then
    some .noCassette
  else if s.transport.tab ≠ .present then some .noTab
  else if s.transport.holder ≠ .none then some .rank
  else if s.protection.faults.jam then some .fault
  else none

/-- The lock set or cleared; TIMER_STATE is raised on a change (R143). -/
def setLock (v : Bool) (s : State) : State :=
  raiseIf (s.engine.lock != v) .timerState (s.modEngine fun e => { e with lock := v })

/-- TIMER_LOCK_UNLOCK with argument 1: the lock, the park, and the switch-off asked for (R145, R173). -/
def lockTimer (r : Rank) (s : State) : Answered :=
  match lockRefusal s r with
  | some why => refuse why s
  | none =>
    if s.engine.lock then accept s
    else
      let parks := s.transport.state == .stop || s.transport.state == .threading
      let s := setLock true s
      accept (lockStandby (if parks then transportPark s else s))

/-- TIMER_LOCK_UNLOCK with argument 0 (R145). -/
def unlockTimer (r : Rank) (s : State) : Answered :=
  if r = .automatic then refuse .rank s else accept (setLock false s)

/-- TIMER_LOCK_UNLOCK (R145). -/
def timerLockUnlock (r : Rank) (arg : Nat) (s : State) : Answered :=
  match arg with
  | 0 => unlockTimer r s
  | 1 => lockTimer r s
  | _ => refuse .badArg s

/-- POWER ON (R170). -/
def powerOn (s : State) : Answered :=
  if s.engine.lock then refuse .locked s
  else
    let s := clearRaised s
    if s.power.state = .standby then accept (enterOn .request s)
    else accept (s.modPower fun p => { p with pendingOff := none })

/-- POWER OFF in ON: a user stop of the current occurrence, the stop and park, the pending switch-off (R52, R170). -/
def switchOff (l : Link) (s : State) : State :=
  pendSwitchOff (.userOff l) (transportOff (endSearch .aborted (userStop s)))

/-- POWER OFF (R170); the timer lock is looked at before the holder (log entry 45). -/
def powerOff (l : Link) (r : Rank) (s : State) : Answered :=
  if s.engine.lock then refuse .locked s
  else if holderRefuses s.transport.holder r true then refuse .rank s
  else
    let s := clearRaised s
    if s.isOn then accept (switchOff l s) else accept s

/-- POWER (R170). -/
def powerRequest (l : Link) (r : Rank) (arg : Nat) (s : State) : Answered :=
  match arg with
  | 0 => powerOff l r s
  | 1 => powerOn s
  | _ => refuse .badArg s

/-- The conditions that the engine judges at the expiry of its power return timer (R160). -/
def deckUnused (s : State) : Bool :=
  s.transport.holder == .none && (s.transport.state == .parked || s.transport.state == .empty) &&
    match s.tuner.holder with
    | .viewUser _ | .search _ _ => false
    | _ => true

/-- The expiry of the power return timer (R160). -/
def powerReturnExpired (s : State) : State :=
  if s.engine.powerReturn then
    let s := s.modEngine fun e => { e with powerReturn := false }
    if deckUnused s then timerReturn s else clearRaised s
  else s

end Sys2Proof.Machine
end

