-- ==== Sys2Proof/Machine/Resets.lean ====
section
/-!
DEFINITION. Mains loss, mains restore, cold start and line reset (R33, R34, R167 to R169, R174, R177), and what each block
does at each.
-/

namespace Sys2Proof.Machine

/-! ## Mains loss (R33, R168) -/

/-- Every output stops being driven (R33). The relay is the Power Supervisor's. -/
def Outputs.stopped (o : Outputs) : Outputs :=
  { o with capstan := .halt, reel := .off, brake := false, recordEnable := false, loading := .off, threading := .off,
           strobe := false }

/-- The transport record as mains loss leaves it, less a running state (R33). -/
def Transport.halted (t : Transport) : Transport :=
  { t with intent := none, oneTouch := none, motion := .stopped, limit := .stopped, drum := .off }

/-- The mechanism halts (R33, R54, R71). STOP in place of a running state is reported as any change of state: the count
direction, the track status and a pending mark follow it (R37, R42; log entry 42). -/
def haltMechanism (s : State) : State :=
  let s := endSearch .aborted (if s.transport.state.running then enter .stop s else s)
  ((s.modTransport Transport.halted).modReels ReelMonitor.halted).modOutputs Outputs.stopped

/-- The ports at mains loss: Link G's set is emptied where main power leaves ON (R180, R181). -/
def portsLoss (wasOn : Bool) (s : State) : State :=
  s.modPorts fun ps => { p := ps.p.dead, g := { ps.g.dead with pending := if wasOn then 0 else ps.g.pending } }

/-- Mains loss, from STANDBY or ON (R168). -/
def mainsLoss (s : State) : State :=
  if s.inHold then s
  else
    let wasOn := s.isOn
    let s := changePower .hold .mainsLoss s
    let s := haltMechanism (s.modPower fun p => { p with pendingOff := none })
    let s := clockLoss s
    let s := if wasOn then (judgeLive (tunerOff s)).modReceiver Receiver.emptied else s
    portsLoss wasOn (engineLoss s)

/-! ## Mains restore (R34, R169) -/

/-- The lock is cleared where recovery finds the cassette switch open (R146). -/
def unlockOnEmpty (x : Readings) (s : State) : State := if x.cassetteClosed then s else setLock false s

/-- The first presence of mains after a cold start without it (R173, R174, R177, R180). -/
def firstMains (x : Readings) (s : State) : State :=
  let s := s.modPower fun p => { p with coldPending := false }
  let s := resetPort .p (recover x (chooseSource (changePower .standby .mainsRestore s)))
  clearRaised (raiseIf (anyFlag s.store.defaults) .store (raise .power s))

/-- Mains restore: the clock's source, the writer, the recovery, the engine (R169). -/
def mainsRestore (x : Readings) (s : State) : State :=
  if ¬ s.inHold then s
  else if s.power.coldPending then firstMains x s
  else
    let s := chooseSource (raise .power (changePower .standby .mainsRestore s))
    let s := if s.store.writer.isSome then s else nextWrite s
    let s := engineRestore (unlockOnEmpty x (recover x s))
    if s.isOn then s else clearRaised s

/-! ## Cold start (R174, R177) -/

/-- The nonvolatile store that a cold start finds: the area of a write cut short, and those that the command names, fail
their sums (R176, R177, log entry 8). -/
def foundStore (failed : AreaFlags) (s : State) : Nonvolatile := (s.nv.spoil s.store.cutShort).spoil failed

/-- The volatile state of a cold start with the four areas loaded from a store (R174, R177). -/
def loaded (nv : Nonvolatile) (s : State) : State :=
  let bad := badAreas nv
  let settings := loadArea settingBytes nv.settings Settings.factory
  { State.reset with
    presets := loadArea presetBytes nv.presets factoryPresets
    slots := loadArea eventBytes nv.events factorySlots
    settings := settings
    gauge := { Gauge.reset with classes := loadArea classBytes nv.classes factoryClasses }
    engine := { Engine.reset with mode := settings.timerOn }
    store := { Store.reset with dirty := bad, defaults := bad }
    nv := nv
    pending := s.pending
    draws := s.draws }

/-- Cold start: the load, the blocks that read settings, then with mains present STANDBY and the recovery, and with mains
absent HOLD, with no output driven, until it is first present (R33, R174). -/
def coldStart (mains : Bool) (x : Readings) (failed : AreaFlags) (s : State) : State :=
  let s := loaded (foundStore failed s) s
  if mains then
    let s := resetPort .p (recover x (chooseSource (computeFlags s)))
    raiseIf (anyFlag s.store.defaults) .store s
  else
    let s := s.modPower fun p => { p with state := .hold, coldPending := true }
    computeFlags (chooseSource ((s.modPins (Pins.read x)).modOutputs Outputs.stopped))

/-! ## Line reset (R174) -/

/-- The transport record before the recovery of a line reset; the state is kept for the recovery to compare (R1, R34). -/
def Transport.lineReset (t : Transport) : Transport := { Transport.reset with state := t.state }

/-- The gauge at a line reset: the class table kept (R62). -/
def Gauge.lineReset (g : Gauge) : Gauge := { Gauge.reset with classes := g.classes }

/-- The two work records of a port at their initial values (R109, R132). -/
def Port.worksReset (initial : Port) (p : Port) : Port :=
  { p with eventWork := initial.eventWork, presetWork := initial.presetWork }

/-- The ports at a line reset: Link G whole only while ON (R180), its two work records in STANDBY too (R109, R132; log
entry 41). -/
def portsLineReset (s : State) : State :=
  let s := resetPort .p s
  if s.isOn then resetPort .g s else s.modPort .g (Port.worksReset s.initialPort)

/-- The latched set and the accumulator emptied (R1, R34). -/
def protectionLineReset (s : State) : State :=
  raiseIf s.protection.faults.any .fault (s.modProtection fun _ => .reset)

/-- The blocks that a line reset returns to their initial state, before the recovery (R36, R54, R62, R74). -/
def blocksLineReset (s : State) : State :=
  let s := protectionLineReset (s.modPower fun p => { p with raised := false, pendingOff := none, lastChange := none })
  let s := ((s.modTransport Transport.lineReset).modPosition fun _ => .reset).modReels fun _ => .reset
  let s := raiseIf (s.gauge.estimate != .none) .gauge (s.modGauge Gauge.lineReset)
  chooseSource (s.modClock Clock.lineReset)

/-- Whether two records differ in what TUNER tells of: source, base divider, presence, LOST or not, holder (R113). -/
def Tuner.showsOtherwise (a b : Tuner) : Bool :=
  a.source != b.source || a.base != b.base || a.present != b.present || (a.lock == .lost) != (b.lock == .lost) ||
    a.holder != b.holder

/-- The tuner and the receiver at a line reset: the record reset, with TUNER where what it tells of changes, the
receiver's too, and with main power ON the lowest qualifying preset applied (R94, R103, R113 to R115). -/
def tunerLineReset (s : State) : State :=
  let s := raiseIf (s.tuner.showsOtherwise .reset) .tuner s
  let s := (s.modTuner fun _ => .reset).modReceiver fun _ => .reset
  judgeLive (if s.isOn then tunerOn s else s)

/-- Line reset, taken in STANDBY or ON (R167, R174). -/
def lineReset (x : Readings) (s : State) : State :=
  if s.inHold then s
  else tunerLineReset (engineLineReset (recover x (blocksLineReset (portsLineReset s))))

end Sys2Proof.Machine
end

