-- ==== Sys2Proof/Machine/Requests.lean ====
section
/-!
DEFINITION. What the remaining requests do at their owning blocks: CLEAR_FAULTS, the counter and gauge requests, the
tuner and preset requests, and the event table's requests.
-/

namespace Sys2Proof.Machine

/-! ## CLEAR_FAULTS (R32) -/

/-- The set after a clearing without EJECT_JAM: WIND_OVERLOAD stays above the re-arm level. -/
def Protection.cleared (p : Protection) : Protection :=
  { p with faults := { Faults.none with
      windOverload := p.faults.windOverload && decide (Config.windRearmLevel < p.windLoad) } }

/-- CLEAR_FAULTS: steps 1, 2 and 4 of R8, then the set; a removed jam leads to UNTHREADING with intent PARKED. -/
def clearFaults (l : Link) (r : Rank) (s : State) : Answered :=
  match lockedOrOff s r with
  | some why => refuse why s
  | none =>
    if holderRefuses s.transport.holder r false then refuse .rank s
    else if s.protection.faults.ejectJam then refuse .fault s
    else
      let before := s.protection
      let jam := before.faults.jam
      let s := acceptFrom l r jam s
      let s := raiseIf (before.cleared != before) .fault (s.modProtection fun _ => before.cleared)
      let s := if jam then enter .unthreading (setIntent (some .parked) s) else s
      if before.cleared.faults.windOverload then (.refuse .busy, s) else accept s

/-! ## Counter and gauge -/

/-- MEMORY_STOP (R41). -/
def setMemoryStop (arg : Arg) (s : State) : Answered :=
  match flagField arg.toNat with
  | some on => accept (s.modPosition fun p => { p with memoryStop := on })
  | none => refuse .badArg s

/-- SET_CASSETTE_CLASS with fields in range (R65). -/
def takeClass (n minutes : Nat) (s : State) : State :=
  let before := s.gauge
  let s :=
    if minutes ≠ 0 ∧ s.gauge.classes.getD n 0 ≠ minutes then
      markDirty .classes (s.modGauge (Gauge.putMinutes n minutes))
    else s
  let s := if s.transport.state = .empty then s else setActiveClass (some n) s
  if s.gauge.active ≠ before.active ∨ s.gauge.activeMinutes ≠ before.activeMinutes then clearEstimate s else s

/-- SET_CASSETTE_CLASS (R65). -/
def setCassetteClass (arg : Arg) (s : State) : Answered :=
  match classFields arg.toNat with
  | some (n, minutes) =>
    if minutes = 0 ∨ (30 ≤ minutes ∧ minutes ≤ 480) then
      if minutes = 0 ∧ s.transport.state = .empty then refuse .noCassette s else accept (takeClass n minutes s)
    else refuse .badArg s
  | none => refuse .badArg s

/-! ## The tuner requests (R98 to R100, R104) -/

/-- The tuner's holder table (R98). -/
def tunerRefuses (h : TunerHolder) (r : Rank) (step : Bool) : Bool :=
  match h, r with
  | .none, _ => false
  | .viewAuto _, _ => false
  | .search .automatic _, _ => false
  | .viewUser _, .user => false
  | .viewUser _, .automatic => true
  | .search .user _, .user => false
  | .search .user _, .automatic => true
  | .timer, .user => !step
  | .timer, .automatic => true

/-- Steps 1 to 3 of R98. -/
def judgeTuner (s : State) (r : Rank) (step : Bool) : Option Refuse :=
  if s.engine.lock then some .locked
  else if ¬ s.isOn then some .notOn
  else if tunerRefuses s.tuner.holder r step then some .rank
  else none

/-- The preset numbers in the order in which SELECT_PRESET up looks at them, from above `n` round to `n` (R99). -/
def numbersUp (n : Nat) : List Nat := (List.range 60).map fun k => (n + k) % 60 + 1

/-- The same downward, from below `n`; 61 stands for no applied preset (R99). -/
def numbersDown (n : Nat) : List Nat := (List.range 60).map fun k => (n + 118 - k) % 60 + 1

/-- The preset a SELECT_PRESET argument names: a refusal, or the number (R99). -/
def selected (s : State) (arg : Nat) : Except Refuse Nat :=
  let applied := s.tuner.source.preset?
  let first := fun (ns : List Nat) =>
    match ns.find? fun n => (s.preset n).stepsTo with
    | some n => Except.ok n
    | none => Except.error .noPreset
  if 1 ≤ arg ∧ arg ≤ 60 then (if (s.preset arg).stored then .ok arg else .error .noPreset)
  else if arg = 61 then first (numbersUp (applied.getD 0))
  else if arg = 62 then first (numbersDown (applied.getD 61))
  else .error .badArg

/-- SELECT_PRESET (R99). -/
def selectPreset (l : Link) (r : Rank) (arg : Arg) (s : State) : Answered :=
  match judgeTuner s r false with
  | some why => refuse why s
  | none =>
    match selected s arg.toNat with
    | .error why => refuse why s
    | .ok n => accept (setTunerHolder (viewOf r l) (applyPreset n (abortStationSearch s)))

/-- The number of the applied preset, where it is STORED (R100). -/
def State.trimmable (s : State) : Option Nat :=
  match s.tuner.source with
  | .preset n => if (s.preset n).stored then some n else none
  | _ => none

/-- TUNE_STEP with an argument in range on preset `n` (R100). -/
def trimPreset (l : Link) (r : Rank) (k : Int) (n : Nat) (s : State) : Answered :=
  let p := s.preset n
  let fine := saturate (-32) 31 (p.fine + k)
  let s := writePreset n { p with fine := fine, aft := false } s
  let s := if s.tuner.holder = .timer then s else setTunerHolder (viewOf r l) s
  if fine = p.fine + k then accept s else acceptValue fine s

/-- TUNE_STEP (R100). -/
def tuneStep (l : Link) (r : Rank) (arg : Arg) (s : State) : Answered :=
  match judgeTuner s r true with
  | some why => refuse why s
  | none =>
    let k := arg.toInt
    if 1 ≤ k.natAbs ∧ k.natAbs ≤ 63 then
      match s.trimmable with
      | some n => trimPreset l r k n (abortStationSearch s)
      | none => refuse .noPreset s
    else refuse .badArg s

/-- A search step: a tuning write of the divider under test toward the module, with nothing reported (R95, R105). The fine
offset is 0 and the AFT enable stays (model's choice, log entry 43). -/
def stepTo (n : Nat) (s : State) : State := tuneModule ⟨s.tuner.source, n, 0, s.tuner.aft⟩ s

/-- The next divider 20 units on; a STATION search wraps, a STORE search has none beyond the top (R105). -/
def StationSearch.next (x : StationSearch) (n : Nat) : Option Nat :=
  if x.down then some (if n < Config.minDivider + 20 then Config.maxDivider else n - 20)
  else if Config.maxDivider < n + 20 then (if x.storing then none else some Config.minDivider)
  else some (n + 20)

/-- The station search record replaced. -/
def setStationSearch (x : StationSearch) (s : State) : State := s.modTuner fun t => { t with search := some x }

/-- A station search begins (R104): the holder SEARCH, source SEARCH, a tuning change with TUNER, and its first step. -/
def beginStationSearch (x : StationSearch) (s : State) : State :=
  let s := setTunerHolder (.search x.rank x.link) (abortStationSearch s)
  let n := if x.storing then x.divider else (x.next x.divider).getD x.divider
  let s := s.modTuner fun t => { t with source := .search, stale := false, search := some { x with divider := n } }
  raise .tuner (tuningChange (stepTo n s))

/-- The record of a new station search (R104). -/
def newStationSearch (storing down : Bool) (divider : Nat) (s : State) (r : Rank) (l : Link) : StationSearch :=
  { storing := storing, down := down, phase := if storing then .seek else .leave, divider := divider, reading := none,
    offset := 0, steps := 0, stored := 0, firstStored := none, starting := s.tuner.standing, rank := r, link := l }

/-- SEARCH_STATION (R104). -/
def searchStation (l : Link) (r : Rank) (arg : Arg) (s : State) : Answered :=
  match judgeTuner s r false with
  | some why => refuse why s
  | none =>
    match flagField arg.toNat with
    | none => refuse .badArg s
    | some down =>
      let start := if s.tuner.present then s.tuner.divider else Config.minDivider
      accept (beginStationSearch (newStationSearch false down start s r l) s)

/-- SEARCH_STORE (R104). -/
def searchStore (l : Link) (r : Rank) (arg : Arg) (s : State) : Answered :=
  match judgeTuner s r false with
  | some why => refuse why s
  | none =>
    match dividerOf arg.toNat with
    | none => refuse .badArg s
    | some n =>
      match s.lowestPreset Preset.vacant with
      | none => refuse .full s
      | some _ => accept (beginStationSearch (newStationSearch true false n s r l) s)

/-! ## Preset work record (R109 to R112) -/

/-- The link's preset work record replaced. -/
def putPresetWork (l : Link) (w : PresetWork) (s : State) : State := s.modPort l fun p => { p with presetWork := w }

/-- FETCH_PRESET (R111). -/
def fetchPreset (l : Link) (arg : Arg) (s : State) : Answered :=
  let n := arg.toNat
  if 1 ≤ n ∧ n ≤ 60 then
    if s.isOn then
      let p := s.preset n
      accept (putPresetWork l ⟨true, some n, p.version, { p with version := 0 }⟩ s)
    else refuse .notOn s
  else refuse .badArg s

/-- The record that a work record stores (R112). -/
def PresetWork.stores (w : PresetWork) : Preset :=
  if w.record.stored then w.record else { Preset.factory with name := w.record.name }

/-- STORE_PRESET (R112). -/
def storePreset (l : Link) (s : State) : Answered :=
  let w := (s.port l).presetWork
  if ¬ s.isOn then refuse .notOn s
  else
    match w.fetched, w.number with
    | true, some n =>
      if (s.preset n).version ≠ w.version then refuse .stale s
      else
        let s := writePreset n w.stores s
        accept (putPresetWork l { w with version := (s.preset n).version } s)
    | _, _ => refuse .wrongState s

/-- A character of a name written: replaced, appended, or the name cut (R110). -/
def writeCharacter (position code : Nat) (name : List Nat) : Option (List Nat) :=
  if 4 < position ∨ name.length < position then none
  else if code = 0 then some (name.take position)
  else if 32 ≤ code ∧ code ≤ 95 then
    some (if position < name.length then name.set position code else name ++ [code])
  else none

/-- A field of the preset work record written: the record, and the value the reply carries (R110). -/
def writePresetField (field : Nat) (value : Value) (p : Preset) : Option (Preset × Nat) :=
  let v := value.toNat
  match field with
  | 0 => (flagField v).map fun b => ({ p with stored := b }, v)
  | 1 =>
    if Config.minDivider ≤ v ∧ v ≤ Config.maxDivider then some ({ p with divider := v, stored := true }, v) else none
  | 2 => (dividerOf v).map fun n => ({ p with divider := n, stored := true }, n)
  | 3 => if -32 ≤ value.toInt ∧ value.toInt ≤ 31 then some ({ p with fine := value.toInt }, v) else none
  | 4 => (flagField v).map fun b => ({ p with aft := b }, v)
  | 5 => (flagField v).map fun b => ({ p with skip := b }, v)
  | 6 =>
    match nameFields v with
    | some (position, code) => (writeCharacter position code p.name).map fun name => ({ p with name := name }, v)
    | none => none
  | 7 => if v ≤ 4096 then some ({ p with identity := if v = 4096 then none else some v }, v) else none
  | 8 => (flagField v).map fun b => ({ p with timeSource := b }, v)
  | _ => none

/-- Capture (R110). -/
def capture (l : Link) (field : Selector) (value : Value) (s : State) : Answered :=
  if s.isOn ∧ s.tuner.present then
    let w := (s.port l).presetWork
    let r := { w.record with divider := s.tuner.divider, fine := 0, stored := true }
    acceptWrite field value.toNat (putPresetWork l { w with record := r } s)
  else refuse .wrongState s

/-- A write of the preset work record (R110). -/
def writePresetWork (l : Link) (field : Selector) (value : Value) (s : State) : Answered :=
  let w := (s.port l).presetWork
  if field = 9 then capture l field value s
  else
    match writePresetField field.toNat value w.record with
    | some (r, taken) => acceptWrite field taken (putPresetWork l { w with record := r } s)
    | none => refuse .badArg s

/-! ## Event work record (R132 to R134) -/

/-- The link's event work record replaced. -/
def putEventWork (l : Link) (w : EventWork) (s : State) : State := s.modPort l fun p => { p with eventWork := w }

/-- The copies shown of a slot (R132). -/
def EventWork.shows (x : Slot) (w : EventWork) : EventWork :=
  { w with shownOwner := x.owner, shownLastServed := x.lastServed, shownOutcome := x.outcome,
           shownConflict := x.conflict }

/-- The blank definition of this moment (R133). -/
def State.blankDef (s : State) : EventDef := .blank s.clock.now.date s.blankPreset

/-- The work record that a fetch leaves (R133). Of a fetch of 32 no rule gives the fetched version and the fetched in-use: they
become 0 and FREE, the initial values of R132 (model's choice, log entry 48). -/
def fetchedWork (s : State) (n : Nat) : EventWork :=
  let blank := EventWork.initial s.clock.now.date s.blankPreset
  if n = 32 then { blank with origin := .new }
  else
    let x := s.slot n
    let w := { blank with origin := .fetched, slot := some n, version := x.version }
    if x.inUse then { w with fetchedInUse := true, defn := x.defn }.shows x else w

/-- FETCH_EVENT (R133). -/
def fetchEvent (l : Link) (arg : Arg) (s : State) : Answered :=
  if arg.toNat ≤ 32 then accept (putEventWork l (fetchedWork s arg.toNat) s) else refuse .badArg s

/-- A field of the event work record written (R134). -/
def writeEventField (field v : Nat) (e : EventDef) : Option EventDef :=
  match field with
  | 0 => (flagField v).map fun b => { e with enabled := b }
  | 1 => (repeatField v).map fun r => { e with rep := r }
  | 2 =>
    match dateFields v with
    | some d =>
      if d.year ≤ 2089 ∧ 1 ≤ d.month ∧ d.month ≤ 12 ∧ 1 ≤ d.day ∧ d.day ≤ 31 then some { e with date := .calendar d }
      else none
    | none => none
  | 3 => if v ≤ 6 then some { e with date := .weekday v } else none
  | 4 => if v ≤ 1439 then some { e with start := v } else none
  | 5 => if v ≤ 1439 then some { e with stop := v } else none
  | 6 => if 1 ≤ v ∧ v ≤ 60 then some { e with preset := v } else none
  | 7 => (slotSpeedField v).map fun x => { e with speed := x }
  | 8 => (labelFields v).map fun c => { e with label := c }
  | _ => none

/-- A write of the event work record (R134). -/
def writeEventWork (l : Link) (field : Selector) (value : Value) (s : State) : Answered :=
  let w := (s.port l).eventWork
  match writeEventField field.toNat value.toNat w.defn with
  | some e => acceptWrite field value.toNat (putEventWork l { w with defn := e } s)
  | none => refuse .badArg s

/-! ## Storing, creating and deleting events (R135 to R138) -/

/-- The definition as a store writes it: the date absent for DAILY and WEEKDAYS (R135). -/
def EventDef.stored (e : EventDef) : EventDef :=
  match e.rep with
  | .daily | .weekdays => { e with date := .absent }
  | _ => e

/-- Whether a definition is complete (R135, step 3). -/
def EventDef.complete (e : EventDef) : Bool :=
  e.start != e.stop &&
    match e.rep, e.date with
    | .once, .calendar d => d.valid && e.existsOn (dayNumber d)
    | .once, _ => false
    | .weekly, .weekday _ => true
    | .weekly, _ => false
    | _, _ => true

/-- Whether a ONCE definition has no occurrence left (R135, step 5). -/
def EventDef.past (e : EventDef) (served : Option Nat) (now : Nat) : Bool :=
  e.enabled && e.rep == .once && (e.nextDay served now).isNone

/-- Whether two definitions differ in a field other than enabled. -/
def EventDef.differsBeyondEnabled (a b : EventDef) : Bool := { a with enabled := b.enabled } != b

/-- Whether two definitions differ in a field other than enabled and the stop minute (R135, step 6). -/
def EventDef.differsBeyondStop (a b : EventDef) : Bool := { a with enabled := b.enabled, stop := b.stop } != b

/-- The slot as a store of a definition by a requester leaves it, version and flag apart (R136). -/
def Slot.storing (x : Slot) (e : EventDef) (current : Bool) (who : Link × Rank) : Slot :=
  let y := { x with inUse := true, defn := e }
  let y := if x.inUse ∧ (current ∨ e.differsBeyondEnabled x.defn = false) then y
    else { y with lastServed := none, outcome := none }
  if x.differs y then { y with owner := some who } else y

/-- Steps 3 to 5 of R135, on the definition as it would be written. -/
def storeRefusal (s : State) (e : EventDef) (current : Bool) (served : Option Nat) : Option Refuse :=
  if e.complete = false then some .badArg
  else if (s.preset e.preset).stored = false then some .noPreset
  else if current = false ∧ e.past served s.now = true then some .past
  else none

/-- The work record after a store into slot `n` (R136, R137). -/
def EventWork.stored (n : Nat) (x : Slot) (w : EventWork) : EventWork :=
  { w with origin := .fetched, slot := some n, version := x.version, fetchedInUse := true }.shows x

/-- The reply of an accepted store: CONFLICT when the slot's flag is on (R136). -/
def storeReply (conflict : Bool) (value : Option Int) (s : State) : Answered := (.reply (noteData conflict value), s)

/-- An accepted STORE_EVENT (R136). -/
def storeInto (l : Link) (r : Rank) (n : Nat) (e : EventDef) (s : State) : Answered :=
  let x := s.slot n
  let current := s.isCurrent n
  let s := writeSlot n (x.storing e current (l, r)) s
  let y := s.slot n
  let s := putEventWork l ((s.port l).eventWork.stored n y) s
  let day := match s.engine.current with
    | some o => o.day
    | none => 0
  let s := if current ∧ e.stop ≠ x.defn.stop then newStop (e.stopOn day) s else s
  storeReply y.conflict none s

/-- STORE_EVENT (R135, R136). -/
def storeEvent (l : Link) (r : Rank) (s : State) : Answered :=
  let w := (s.port l).eventWork
  match w.origin, w.slot with
  | .fetched, some n =>
    let x := s.slot n
    let e := w.defn.stored
    let current := s.isCurrent n
    if x.version ≠ w.version ∨ (x.inUse = true ∧ w.fetchedInUse = false) then refuse .stale s
    else
      match storeRefusal s e current (x.storing e current (l, r)).lastServed with
      | some why => refuse why s
      | none =>
        if current ∧ e.differsBeyondStop x.defn = true then refuse .busy s else storeInto l r n e s
  | _, _ => refuse .wrongState s

/-- The lowest free slot, counted from `i`. -/
def lowestFree (i : Nat) : List Slot → Option Nat
  | [] => none
  | x :: xs => if x.inUse then lowestFree (i + 1) xs else some i

/-- NEW_EVENT (R137). -/
def newEvent (l : Link) (r : Rank) (s : State) : Answered :=
  let w := (s.port l).eventWork
  if w.origin = .none then refuse .wrongState s
  else
    match lowestFree 0 s.slots with
    | none => refuse .full s
    | some n =>
      let e := w.defn.stored
      match storeRefusal s e false none with
      | some why => refuse why s
      | none =>
        let s := writeSlot n ((s.slot n).storing e false (l, r)) s
        let y := s.slot n
        storeReply y.conflict (some n) (putEventWork l (w.stored n y) s)

/-- An accepted deletion: a current occurrence is ended first and then belongs to no slot (R138). -/
def freeSlot (n : Nat) (s : State) : State :=
  let s := if s.isCurrent n then userStop (updateOccurrence (fun o => { o with orphan := true }) s) else s
  writeSlot n Slot.factory s

/-- DELETE_EVENT (R138). -/
def deleteEvent (r : Rank) (arg : Arg) (s : State) : Answered :=
  let n := arg.toNat
  if 32 ≤ n then refuse .badArg s
  else if (s.slot n).inUse = false then refuse .emptySlot s
  else if s.isCurrent n = true ∧ r = .automatic then refuse .rank s
  else accept (freeSlot n s)

/-! ## The port's own requests (R188 to R190) -/

/-- WRITE of the mask (R188). -/
def writeMask (l : Link) (sel : Selector) (value : Value) (s : State) : Answered :=
  if sel = 0 ∧ value.toNat < 2 ^ 18 then
    acceptWrite sel value.toNat (s.modPort l fun p => { p with mask := value.extractLsb' 0 18 })
  else refuse .badArg s

/-- TAKE (R189). -/
def takeKinds (l : Link) (selection : Arg) (s : State) : Answered :=
  if selection.toNat < 2 ^ 18 then
    let chosen := selection.extractLsb' 0 18
    let taken := (s.port l).pending &&& chosen
    (.reply (0#6 ++ taken), s.modPort l fun p => { p with pending := p.pending &&& ~~~chosen })
  else refuse .badArg s

end Sys2Proof.Machine
end

