-- ==== Sys2Proof/Machine/Ports.lean ====
section
/-!
DEFINITION. The link ports (R180 to R186, R190): a whole frame around a request, the effective rank, and the read buffer.
-/

namespace Sys2Proof.Machine

/-- The effective rank of a request on a link (R183). -/
def effectiveRank (s : State) (l : Link) (r : Rank) : Rank :=
  match l with
  | .p => r
  | .g => if s.settings.guideRelays then r else .automatic

/-- A whole frame on a live link (R182 to R184): the outgoing word is sampled, the request is judged at its effective
rank, and its answer overwrites the reply holder. -/
def frame (l : Link) (r : Rank) (body : Rank → State → Answered) (s : State) : State :=
  let word := outgoingWord l s
  let a := body (effectiveRank s l r) s
  a.2.modPort l fun p => { p with reply := a.1.holder, outgoing := word }

/-- A request whose action may reach the transport, the engine or the supplies; a link that is not live takes no frame
(R181). -/
def request (l : Link) (r : Rank) (body : Rank → State → Answered) (s : State) : State :=
  if s.live l then settle (frame l r body s) else s

/-- A request that acts on the port, the clock's staging, a table or a record alone (R181). -/
def quietRequest (l : Link) (r : Rank) (body : Rank → State → Answered) (s : State) : State :=
  if s.live l then finish (frame l r body s) else s

/-! ## READ (R186) -/

/-- The part assembled by a READ with word index 0, packed into the read buffer; its word 0 is the reply. -/
def bufferPart (l : Link) (code : Code) (item : Value) (words : List Arg) (s : State) : Answered :=
  (.reply (words.getD 0 0), s.modPort l fun p => { p with readBuffer := some ⟨code, item, words⟩ })

/-- A READ of an item whose part is given; none is an argument refused BAD_ARG. -/
def readItem (l : Link) (code : Code) (item : Value) (part : Option (List Field)) (s : State) : Answered :=
  match part with
  | some fs => bufferPart l code item (packPart fs) s
  | none => refuse .badArg s

/-- A READ with word index 1 or more: word n of the buffered part (R186). The item arguments are compared as they travel, for
an item listed with no argument too (model's choice, log entry 51). -/
def nextWord (l : Link) (code : Code) (index : Selector) (item : Value) (s : State) : Answered :=
  match (s.port l).readBuffer with
  | some b =>
    if b.code = code ∧ b.item = item then
      match b.words[index.toNat]? with
      | some w => (.reply w, s)
      | none => refuse .badArg s
    else refuse .wrongState s
  | none => refuse .wrongState s

/-! ## Frames that carry no request -/

/-- A frame with a clock-edge count other than 32 (R182): the outgoing word goes out, the reply holder stays, LINK_ERROR
is raised on that link. -/
def discardFrame (l : Link) (s : State) : State :=
  if s.live l then
    finish (raiseOn l .linkError (s.modPort l fun p => { p with outgoing := outgoingWord l s }))
  else s

/-- RESET_LINK (R190): the port's initial state, the initial reply included. -/
def resetLink (l : Link) (s : State) : State :=
  if s.live l then finish ((resetPort l s).modPort l fun p => { p with outgoing := outgoingWord l s }) else s

end Sys2Proof.Machine
end

