-- ==== Sys2Proof/Machine/Reads.lean ====
section
/-!
DEFINITION. The parts that the READ items return (R35, R29, R38, R45, R72, R82, R83, R110, R113, R124, R125, R134, R166,
R179, R189), each field with the bits that R186 gives it (log entry 9).
-/

namespace Sys2Proof.Machine

/-! ## Transport and counter -/

/-- One-touch time in whole minutes, rounded up (R35). -/
def oneTouchMinutes (units : Nat) : Nat := (units + Config.unitsPerMinute - 1) / Config.unitsPerMinute

/-- The transport detail item (R35). -/
def transportDetail (s : State) : List Field :=
  let t := s.transport
  [num 4 t.state.code, num 4 (intentCode t.intent), num 2 t.holder.kindCode, num 2 (linkOrNone t.holder.link?),
    num 2 t.tab.code, num 2 t.speed.code, num 2 t.recordSpeed.code] ++
  opt t.oneTouch 0 (fun n => [num 8 (oneTouchMinutes n)]) ++ [flag s.pins.tapeStart, flag s.pins.tapeEnd]

/-- The faults item (R29): a flag for each kind, in the order of R29's table, then the wind load. R186 gives no packing for
a set of fault kinds (model's choice, log entry 9). -/
def faultsItem (s : State) : List Field :=
  let f := s.protection.faults
  [flag f.threadJam, flag f.unthreadJam, flag f.ejectJam, flag f.reelStall, flag f.windOverload, flag f.drumFault,
    num 14 s.protection.windLoad]

/-- The target of a search mode, if it has one, and the marks still to pass. -/
def SearchMode.target? : SearchMode → Option Int
  | .target t => some t
  | .counting _ => none

def SearchMode.marks? : SearchMode → Option Nat
  | .target _ => none
  | .counting n => some n

/-- The fields of a search record in the counter item (R38). -/
def searchFields (r : Search) : List Field :=
  [num 1 (if r.index then 1 else 0), num 2 r.phase.code] ++ opt r.mode.target? 0 (fun t => [sig 22 t]) ++
  opt r.mode.marks? 0 (fun n => [num 5 n]) ++ [num 1 (rankCode r.rank), num 1 (linkCode r.link)]

/-- A search record of zeros, for the bits of an absent one. -/
def Search.blank : Search :=
  { index := false, count := 0, mode := .target 0, direction := none, phase := .thread, endPlay := false, rank := .user,
    link := .p }

/-- The fields of a last search ending (R38). -/
def endingFields (e : SearchEnding) : List Field :=
  [num 2 e.kind.code, num 2 e.outcome.code, sig 22 e.counter, num 2 (linkOrNone e.link)]

/-- The counter item (R38). -/
def counterItem (s : State) : List Field :=
  let p := s.position
  let d := displayOf s.settings.standard.frames p.counter
  [sig 22 p.counter, flag d.1, num 4 d.2.1, num 6 d.2.2.1, num 6 d.2.2.2, num 1 (if p.trackPresent then 0 else 1),
    flag p.memoryStop, num 6 p.index.length] ++
  opt p.search Search.blank searchFields ++
  opt p.lastEnding ⟨.counter, .found, 0, none⟩ endingFields

/-- The index list entry item (R45). -/
def indexEntry (s : State) (n : Nat) : Option (List Field) :=
  if n < 32 then some (opt s.position.index[n]? 0 fun x => [sig 22 x]) else none

/-! ## Gauge (R72) -/

/-- The burst phase with its number and part. -/
def burstFields : Burst → List Field
  | .none => [num 2 0, num 4 0, flag false]
  | .bursting n on => [num 2 1, num 4 n, flag on]
  | .full => [num 2 2, num 4 0, flag false]

/-- SUPPLY, TAKE_UP or none. -/
def reelOrNone : Option Reel → Nat
  | some .supply => 0
  | some .takeUp => 1
  | none => 2

/-- The period of a ring and its validity. -/
def periodFields (ring : List Nat) : List Field := [num 16 (revolution ring), flag (validRing ring)]

/-- The class and its minutes. -/
def classOf (s : State) (n : Nat) : List Field := [num 3 n, num 9 (s.gauge.classes.getD n 0)]

/-- The gauge item (R72). -/
def gaugeItem (s : State) (n : Nat) : Option (List Field) :=
  let g := s.gauge
  match n with
  | 0 => some ([num 2 g.estimate.code] ++ opt g.fraction 0 fun x => [num 14 x])
  | 1 => some (opt g.remainingSp 0 fun x => [num 15 x])
  | 2 => some (opt (g.remainingAt s.transport.speed) 0 (fun x => [num 17 x]) ++ [num 2 s.transport.speed.code])
  | 3 => some (opt g.active 0 (classOf s) ++ [num 2 g.entries])
  | 4 => some (periodFields s.reels.supplyRing)
  | 5 => some (periodFields s.reels.takeUpRing)
  | 6 =>
    some (burstFields s.reels.burst ++ [num 2 (reelOrNone s.reels.supervised), flag s.reels.stallTimer.isSome])
  | _ => if 8 ≤ n ∧ n ≤ 15 then some (classOf s (n - 8)) else none

/-! ## Clock (R82, R83) -/

/-- TIME from a snapshot. -/
def timePart (s : State) : List Field :=
  timeField s.clock.now.time ++ [num 1 (flagCode s.clock.set), num 1 s.clock.source.code]

/-- DATE with its weekday. -/
def datePart (d : Date) : List Field := dateField d ++ [num 3 (weekdayOf (dayNumber d))]

/-- Parts 2 to 4 of the clock item. -/
def clockItem (s : State) (l : Link) (n : Nat) : Option (List Field) :=
  let c := s.clock
  match n with
  | 2 =>
    some ([num 1 (flagCode c.set), num 1 c.source.code] ++
      opt (c.candidate.map Candidate.identity) 0 (fun x => [num 12 x]) ++ [num 3 c.verdict.code])
  | 3 => some (opt c.correction 0 fun x => [sig 24 (saturate (-8388607) 8388607 x)])
  | 4 => some (opt (c.staged.get l) ⟨1990, 1, 1⟩ dateField)
  | _ => none

/-- A read of TIME takes the link's snapshot (R83). -/
def readTime (l : Link) (s : State) : Answered :=
  let s := s.modClock fun c => { c with snapshot := c.snapshot.put l (some c.now) }
  bufferPart l 5 0 (packPart (timePart s)) s

/-- A read of DATE returns the snapshot's date and releases it, or the live date (R83). -/
def readDate (l : Link) (s : State) : Answered :=
  let x := (s.clock.snapshot.get l).getD s.clock.now
  let s := s.modClock fun c => { c with snapshot := c.snapshot.put l none }
  bufferPart l 5 1 (packPart (datePart x.date)) s

/-! ## Tuner (R113) -/

/-- The tuner status item; a search's stored count stands in 6 bits, 0 in a STATION search (log entry 9). -/
def tunerItem (s : State) (n : Nat) : Option (List Field) :=
  let t := s.tuner
  match n with
  | 0 =>
    some ([num 3 t.holder.kindCode] ++ opt (t.holder.searchRank?.map rankCode) 0 (fun x => [num 1 x]) ++
      [num 2 (linkOrNone t.holder.link?), num 2 t.source.code] ++ opt t.source.preset? 0 (fun x => [num 6 x]) ++
      [flag t.stale, flag t.present])
  | 1 => some [num 15 t.divider, num 2 t.band.code, num 15 t.base, sig 6 t.fine, flag t.aft, sig 5 t.correction]
  | 2 => some [num 2 t.lock.code, flag t.retrySpent]
  | 3 =>
    let blank := newStationSearch false false 0 s .user .p
    some (opt t.search { blank with steps := 0 } fun x =>
      [num 1 (if x.storing then 1 else 0), num 1 (if x.down then 1 else 0), num 2 x.phase.code, num 15 x.divider,
        num 10 x.steps, num 6 x.stored])
  | 4 =>
    some (opt t.lastEnding ⟨false, .found, 0, 0⟩ fun x =>
      [num 1 (if x.storing then 1 else 0), num 3 x.outcome.code, num 6 x.stored, num 15 x.divider])
  | 5 => some (opt t.lastChanged 1 fun x => [num 6 x, num 8 (s.preset x).version])
  | _ => none

/-- The applied preset item. -/
def presetItem (s : State) (n : Nat) : Option (List Field) :=
  if n = 0 then some (opt s.tuner.source.preset? 0 fun x => [num 6 x])
  else if n ≤ 60 then
    let p := s.preset n
    some [flag p.stored, num 8 p.version, flag p.skip, num 3 p.name.length, flag p.identity.isSome, flag p.timeSource]
  else none

/-! ## Labels (R124, R125) -/

/-- The first part of a packet, with the number of packets left. -/
def labelFirst (left : Nat) : Packet → List Field
  | .prog identity _ _ _ _ status => [num 1 0, num 12 identity, num 2 status.code, num 2 left]
  | .time identity _ offset => [num 1 1, num 12 identity, sig 7 offset, num 2 left]

/-- The second part of a packet. -/
def labelSecond : Packet → List Field
  | .prog _ day month hour minute _ => [num 5 day, num 4 month, num 5 hour, num 6 minute]
  | .time _ utc _ => dateTimeField utc

/-- A packet of zeros, for the bits of an absent one. -/
def Packet.blank : Packet := .prog 0 0 0 0 0 .running

/-- The link's read-out replaced (R124). -/
def setReadOut (l : Link) (p : Option Packet) (s : State) : State :=
  s.modReceiver fun r => { r with readOut := r.readOut.put l p }

/-- READ_LABEL: the oldest packet leaves the queue for the link's read-out (R124). -/
def readLabel (l : Link) (s : State) : Answered :=
  let oldest := s.receiver.labels.head?
  let rest := s.receiver.labels.tail
  let s := setReadOut l oldest (s.modReceiver fun r => { r with labels := rest })
  bufferPart l 8 0 (packPart (opt oldest Packet.blank (labelFirst rest.length))) s

/-- The second part of the read-out, which then becomes absent (R124). -/
def readLabelSecond (l : Link) (s : State) : Answered :=
  bufferPart l 8 1 (packPart (opt (s.receiver.readOut.get l) Packet.blank labelSecond)) (setReadOut l none s)

/-- The first condition of R115 that fails. -/
def firstFailing (s : State) : Option Nat :=
  if ¬ s.isOn then some 0 else if s.tuner.lock ≠ .locked then some 1 else if s.tuner.search.isSome then some 2 else none

/-- The receiver status (R125). -/
def receiverItem (s : State) (l : Link) (n : Nat) : Option (List Field) :=
  if n = 2 then
    let r := s.receiver
    some ([flag r.live] ++ opt (if r.live then none else firstFailing s) 0 (fun x => [num 2 x]) ++
      [num 2 r.state.code, num 3 r.lastReason.code, num 3 r.labels.length, flag (r.readOut.get l).isSome])
  else none

/-! ## Work records (R110, R134) -/

/-- An owner. -/
def ownerFields (o : Link × Rank) : List Field := [num 1 (linkCode o.1), num 1 (rankCode o.2)]

/-- The label control as field 8 is read (R134): the form, the hour and the minute, at the widths that R186 gives their
WRITE. R186 gives that packing for the write alone, and in a part that is read it puts a presence bit before a field that may
be absent; for this field the model reads back the written form, with no presence bit before the label time (model's choice,
log entry 9). -/
def labelControlFields : LabelControl → List Field
  | .off => [num 2 0, num 5 0, num 6 0]
  | .on none => [num 2 1, num 5 0, num 6 0]
  | .on (some (h, m)) => [num 2 2, num 5 h, num 6 m]

/-- The calendar date, or the weekday, of a date field. -/
def DateField.calendar? : DateField → Option Date
  | .calendar d => some d
  | _ => none

def DateField.weekday? : DateField → Option Nat
  | .weekday n => some n
  | _ => none

/-- How many slots pass a test. -/
def countSlots (ok : Slot → Bool) (s : State) : Nat := (s.slots.filter ok).length

/-- The event work-record item (R134). -/
def eventWorkItem (s : State) (l : Link) (n : Nat) : Option (List Field) :=
  let w := (s.port l).eventWork
  let e := w.defn
  match n with
  | 0 => some [flag e.enabled]
  | 1 => some [num 2 e.rep.code]
  | 2 => some (opt e.date.calendar? ⟨1990, 1, 1⟩ dateField)
  | 3 => some (opt e.date.weekday? 0 fun x => [num 3 x])
  | 4 => some [num 11 e.start]
  | 5 => some [num 11 e.stop]
  | 6 => some [num 6 e.preset]
  | 7 => some [num 2 e.speed.code]
  | 8 => some (labelControlFields e.label)
  | 9 =>
    some ([num 2 w.origin.code] ++ opt w.slot 0 (fun x => [num 5 x]) ++ [num 8 w.version, flag w.fetchedInUse])
  | 10 => some (opt w.shownOwner (.p, .user) ownerFields)
  | 11 => some (opt w.shownLastServed 0 dayField)
  | 12 =>
    some (opt w.shownOutcome ⟨.recorded, 0, none, 0⟩ fun o =>
      [num 2 o.verdict.code] ++ opt o.verdict.reason? 0 (fun x => [num 4 x]) ++
        opt o.speed .sp (fun v => [num 2 v.code]))
  | 13 => some (opt w.shownOutcome ⟨.recorded, 0, none, 0⟩ fun o => dayField o.day ++ [num 11 o.minutes])
  | 14 => some [flag w.shownConflict]
  | 15 =>
    some ([num 6 (countSlots Slot.inUse s), num 6 (countSlots (fun x => x.inUse && x.defn.enabled) s),
      num 6 (countSlots Slot.conflict s)] ++ opt (lowestFree 0 s.slots) 0 fun x => [num 5 x])
  | _ => none

/-- A name: its length, then five characters, zeros beyond the length. -/
def nameBits (name : List Nat) : List Field :=
  num 3 name.length :: (List.range 5).map fun i => num 7 (name.getD i 0)

/-- The preset work-record item (R110). -/
def presetWorkItem (s : State) (l : Link) (n : Nat) : Option (List Field) :=
  let w := (s.port l).presetWork
  let p := w.record
  match n with
  | 0 => some [flag p.stored]
  | 1 => some [num 15 p.divider]
  | 2 => some [num 20 (frequencyOf p.divider)]
  | 3 => some [sig 6 p.fine]
  | 4 => some [flag p.aft]
  | 5 => some [flag p.skip]
  | 6 => some (nameBits p.name)
  | 7 => some (opt p.identity 0 fun x => [num 12 x])
  | 8 => some [flag p.timeSource]
  | 10 => some ([flag w.fetched] ++ opt w.number 0 (fun x => [num 6 x]) ++ [num 8 w.version])
  | _ => none

/-! ## Timer, settings, link (R166, R179, R189) -/

/-- An occurrence of zeros, for the bits of an absent one. -/
def Occurrence.blank : Occurrence := .ofDue ⟨0, 0, 0, 0, .user⟩

/-- A due-list entry. -/
def dueFields (e : DueEntry) : List Field :=
  [num 5 e.slot] ++ dayField e.day ++ [num 26 e.start, num 26 e.stop, num 1 (rankCode e.rank)]

/-- The timer status item (R166). -/
def timerItem (s : State) (n : Nat) : Option (List Field) :=
  let g := s.engine
  let epoch : DateTime := ⟨⟨1990, 1, 1⟩, ⟨0, 0, 0⟩⟩
  match n with
  | 0 =>
    some ([flag g.mode, flag g.lock] ++
      opt g.current Occurrence.blank fun o => [num 5 o.slot] ++ dayField o.day ++ [num 3 o.phase.code])
  | 1 =>
    some (opt g.current Occurrence.blank fun o =>
      [num 26 o.start, num 26 o.stop] ++ opt o.speed .sp (fun v => [num 2 v.code]) ++
        [num 2 o.label.code, flag o.labelsSeen] ++ opt o.lastLabel epoch dateTimeField)
  | 2 =>
    some (opt g.current Occurrence.blank (fun o =>
        opt o.actualStart epoch dateTimeField ++ [num 11 o.minutes] ++
          opt (o.noted.map Noted.code) 0 (fun x => [num 2 x]) ++ [flag o.powerRaised]) ++ [flag g.powerReturn])
  | 3 => some [num 6 g.due.length]
  | _ => if 16 ≤ n ∧ n ≤ 47 then some (opt g.due[n - 16]? ⟨0, 0, 0, 0, .user⟩ dueFields) else none

/-- The bits of a setting's range (R178). -/
def settingWidth : Nat → Nat
  | 3 => 3
  | 4 => 12
  | 9 => 4
  | 10 => 5
  | 11 => 8
  | 12 => 2
  | 13 => 2
  | _ => 1

/-- The power status (R179). The cause of a pending switch-off is read without the link of a USER_OFF, and the last change
as one presence bit before its three fields (model's choices, log entry 9). -/
def powerStatus (s : State) : List Field :=
  let p := s.power
  [num 2 p.state.code, flag p.raised] ++ opt (p.pendingOff.map SwitchOff.code) 0 (fun x => [num 2 x]) ++
    opt p.lastChange ⟨.hold, .hold, .request⟩ fun c =>
      [num 2 c.fromState.code, num 2 c.toState.code, num 4 c.cause.code]

/-- The store status (R179): dirty and write-failed for each area, the writer's area, the last written area, and *defaults
loaded*. R186 gives no packing for a set of areas. The model packs *defaults loaded* as four flags in the fixed area order
PRESETS, EVENTS, SETTINGS, CLASSES, 1 where the area is in the set; it takes the dirty and write-failed flags in the same
order, an area's dirty flag before its write-failed flag, and the writer state as a presence bit before its area (model's
choices, log entry 9). -/
def storeStatus (s : State) : List Field :=
  let t := s.store
  [flag t.dirty.presets, flag t.failed.presets, flag t.dirty.events, flag t.failed.events, flag t.dirty.settings,
    flag t.failed.settings, flag t.dirty.classes, flag t.failed.classes] ++
  opt (t.writer.map fun c => c.area.code) 0 (fun x => [num 2 x]) ++
  opt (t.last.map Area.code) 0 (fun x => [num 2 x]) ++
  [flag t.defaults.presets, flag t.defaults.events, flag t.defaults.settings, flag t.defaults.classes]

/-- The settings item (R179). -/
def settingsItem (s : State) (n : Nat) : Option (List Field) :=
  if n ≤ 15 then some [num (settingWidth n) (s.settings.coded n)]
  else if n = 16 then some (powerStatus s)
  else if n = 17 then some (storeStatus s)
  else none

/-- The link status item: pending set, mask, and the rank a user request would take, in three words (R189). -/
def linkStatus (l : Link) (item : Value) (s : State) : Answered :=
  let p := s.port l
  bufferPart l 13 item
    [0#6 ++ p.pending, 0#6 ++ p.mask, BitVec.ofNat 24 (rankCode (effectiveRank s l .user))] s

end Sys2Proof.Machine
end

