-- ==== Sys2Proof/Machine/Mechanism.lean ====
section
/-!
DEFINITION. The events of the mechanism, its timers and supervision (R18 to R31, R37, R58 to R61). In HOLD the mechanism
inputs do not act (R33).
-/

namespace Sys2Proof.Machine

/-! ## Cassette switch (R18, R23) -/

/-- The cassette switch closes in EMPTY: in STANDBY main power is raised first, and CASSETTE is raised on Link P (R18,
R172). -/
def beginInsertion (s : State) : State :=
  let s := if s.power.state = .standby then enterOn .insertion (raiseOn .p .cassette s) else s
  enter .inserting s

/-- The cassette switch closes. -/
def cassetteCloses (s : State) : State :=
  let s := s.modPins fun p => { p with cassetteClosed := true }
  if ¬ s.inHold ∧ s.transport.state = .empty then beginInsertion s else s

/-- EMPTY after an insertion abandoned: the class absent, CASSETTE raised (R18, R64). -/
def abandonInsertion (s : State) : State :=
  releaseAtRest (raise .cassette (setActiveClass none (enter .empty s)))

/-- EMPTY by ejection: counter, list, rings and estimate go with the cassette (R23, R36, R56, R64, R71). -/
def completeEjection (s : State) : State :=
  let s := (enter .empty s).modPosition Position.ejected
  let s := s.modReels (ReelMonitor.emptied none)
  releaseAtRest (raise .cassette (setActiveClass none (clearEstimate s)))

/-- The cassette switch opens. -/
def cassetteOpens (s : State) : State :=
  let s := s.modPins fun p => { p with cassetteClosed := false }
  if s.inHold then s
  else if s.transport.state = .inserting then abandonInsertion s
  else if s.transport.state = .ejecting then completeEjection s
  else s

/-! ## Parked and threaded switches (R18 to R22) -/

/-- Auto-play of a tabless cassette (R19). -/
def autoPlay (s : State) : State :=
  if s.transport.tab = .absent ∧ s.settings.autoPlay ∧ s.transport.holder = .none ∧ ¬ s.pins.tapeEnd ∧
      ¬ s.protection.faults.blocks .play then
    thread .play (setHolder (.auto .p) s)
  else s

/-- What follows PARKED: a pending switch-off is judged at this change of state, and where it is completed nothing is
carried out and the intent goes (R171, log entry 33). -/
def thenParked (carryOut : State → State) (s : State) : State :=
  releaseAtRest (if s.switchesOff then setIntent none (judgeSwitchOff s) else carryOut s)

/-- An insertion completed: the tab, the class, PARKED, CASSETTE, then the intent or auto-play (R18, R19, R21, R64). -/
def completeInsertion (tabPresent : Bool) (s : State) : State :=
  let intended := s.transport.intent.isSome
  let s := s.modTransport fun t => { t with tab := tabOf tabPresent }
  let s := raise .cassette (enter .parked (setActiveClass (some s.settings.defaultClass) s))
  thenParked (if intended then carryOutParked else autoPlay) s

/-- An unthreading completed (R22). -/
def completeUnthreading (s : State) : State := thenParked carryOutParked (enter .parked s)

/-- The threading motor stopped, or driven, within THREADING (R2, R20). -/
def retryMotion (m : MotionTimer) (d : MotorDrive) (s : State) : State :=
  (s.modTransport fun t => { t with motion := m }).modOutputs fun o => { o with threading := d }

/-- The parked switch closes, with the tab switch's reading (R18, R20, R22). -/
def parkedCloses (tabPresent : Bool) (s : State) : State :=
  if s.inHold then s
  else
    match s.transport.state with
    | .inserting => completeInsertion tabPresent s
    | .unthreading => completeUnthreading s
    | .threading => if s.transport.motion = .threadReversal then retryMotion .threadDelay .off s else s
    | _ => s

/-- Whether a threading attempt is in progress (R20). -/
def Transport.attempting (t : Transport) : Bool :=
  t.state == .threading && (t.motion == .threadFirst || t.motion == .threadSecond)

/-- The threaded switch closes within an attempt: the intent is carried out, and a waiting search begins (R20, R21,
R51). -/
def threadedCloses (s : State) : State :=
  if ¬ s.inHold ∧ s.transport.attempting then releaseAtRest (searchThreaded (carryOutThreaded s)) else s

/-! ## Mechanism timers (R18, R20, R22, R23) -/

/-- A jam latched, and reported to the engine under TIMER (R29, R162). -/
def jam (k : FaultKind) (s : State) : State := faultUnderTimer (latchJam k s)

/-- INSERT_TIMEOUT: the intent is dropped and the cassette pushed back out (R18). -/
def insertTimedOut (s : State) : State :=
  if s.transport.motion = .insert then enter .ejecting (setIntent none s) else s

/-- THREAD_TIMEOUT (R20). -/
def threadTimedOut (s : State) : State :=
  match s.transport.motion with
  | .threadFirst => retryMotion .threadReversal .outward s
  | .threadSecond => jam .threadJam s
  | _ => s

/-- THREAD_RETRY_DELAY: the second attempt (R20). -/
def retryDelayEnds (s : State) : State :=
  if s.transport.motion = .threadDelay then retryMotion .threadSecond .inward s else s

/-- UNTHREAD_TIMEOUT, of an unthreading or of a reversal (R20, R22). -/
def unthreadTimedOut (s : State) : State :=
  match s.transport.motion with
  | .threadReversal => jam .threadJam s
  | .unthread => jam .unthreadJam s
  | _ => s

/-- EJECT_TIMEOUT (R23). -/
def ejectTimedOut (s : State) : State := if s.transport.motion = .eject then jam .ejectJam s else s

/-! ## Limits (R12, R24, R25) -/

/-- STILL_LIMIT (R24). -/
def stillLimitExpires (s : State) : State :=
  if s.transport.limit = .still then releaseAtRest (enter .stop s) else s

/-- REC_PAUSE_LIMIT, reported to the engine under TIMER (R24, R162). -/
def recPauseLimitExpires (s : State) : State :=
  if s.transport.limit = .recPause then recPauseLimitUnderTimer (releaseAtRest (enter .stop s)) else s

/-- STOP_THREADED_LIMIT (R25). -/
def stopLimitExpires (s : State) : State :=
  if s.transport.limit = .stopThreaded then stopAndUnthread .parked s else s

/-- The one-touch time runs out in RECORD (R12). -/
def oneTouchEnds (s : State) : State :=
  if s.transport.oneTouch.isSome ∧ s.transport.state = .record then releaseAtRest (enter .stop s) else s

/-! ## Drum and speed (R3, R26) -/

/-- A protective fault latched, and all but WIND_OVERLOAD reported to the engine under TIMER (R30, R162); one that is latched
already has no effect (R29, log entry 35). -/
def protect (k : FaultKind) (s : State) : State :=
  if s.protection.faults.has k then s else faultUnderTimer (latchProtective k s)

/-- The 2 s timer of SPIN_UP expires. -/
def drumSpinUpExpires (s : State) : State := if s.transport.drum = .spinUp then protect .drumFault s else s

/-- The 1 s timer of LOST expires. -/
def drumLostExpires (s : State) : State := if s.transport.drum = .lost then protect .drumFault s else s

/-- The drum phase at a change of the drum lock line (R26). -/
def DrumPhase.locked? (present : Bool) : DrumPhase → DrumPhase
  | .off => .off
  | .spinUp => if present then .locked else .spinUp
  | .locked => if present then .locked else .lost
  | .lost => if present then .locked else .lost

/-- The drum lock line changes. -/
def drumLockChanges (present : Bool) (s : State) : State :=
  (s.modPins fun p => { p with drumLock := present }).modTransport fun t => { t with drum := t.drum.locked? present }

/-- A new current speed in a reading state: the capstan command again, and the stall timer in PLAY (R3, R58). -/
def changeSpeed (v : Speed) (s : State) : State :=
  if s.transport.speed = v then s
  else
    let s := (s.modTransport fun t => { t with speed := v }).modReels (ReelMonitor.speedChanged s.transport.state v)
    s.modOutputs fun o => { o with capstan := capstanOf s.transport.state v s.transport.recordSpeed }

/-- The speed-sense code changes (R3). -/
def speedSenseChanges (code : SpeedCode) (s : State) : State :=
  let s := s.modPins fun p => { p with speedSense := code }
  if s.transport.state.reading then changeSpeed (speedOfSense code) s else s

/-! ## Tape edges (R27, R28) -/

/-- STOP with TAPE_EDGE; a running search ends NOT_FOUND (R27, R52). -/
def reachEdge (s : State) : State := endSearch .notFound (raise .tapeEdge (enter .stop s))

/-- Auto-rewind at the tape-end stop, or the holder's release (R6, R28). -/
def autoRewind (s : State) : State :=
  let f := s.protection.faults
  if s.settings.autoRewind ∧ s.transport.holder.ofLink ∧ ¬ f.reelStall ∧ ¬ f.windOverload then enter .rwind s
  else releaseAtRest s

/-- The tape-end sensor becomes active in a state that moves toward it (R27, R28, R162). -/
def endReached (s : State) : State :=
  let recording := s.transport.state == .record && s.transport.holder == .timer
  let s := autoRewind (reachEdge s)
  if recording then edgeUnderTimer s else s

/-- The tape-end sensor's reading becomes `active`. -/
def tapeEndBecomes (active : Bool) (s : State) : State :=
  let s := s.modPins fun p => { p with tapeEnd := active }
  if active ∧ ¬ s.inHold ∧ s.transport.state.motion = .forward then endReached s else s

/-- The tape-start sensor's reading becomes `active`. -/
def tapeStartBecomes (active : Bool) (s : State) : State :=
  let s := s.modPins fun p => { p with tapeStart := active }
  if active ∧ ¬ s.inHold ∧ s.transport.state.motion = .reverse then releaseAtRest (reachEdge s) else s

/-! ## Wind load (R31) -/

/-- What 100 ms in a state add to the wind load. -/
def windAddition : TState → Nat
  | .fwind | .rwind => 4
  | .cue | .review => 2
  | _ => 0

/-- The wind load accumulator's 100 ms: an addition that reaches the top holds there and latches WIND_OVERLOAD. -/
def windLoadTick (s : State) : State :=
  if s.inHold then s
  else
    let add := windAddition s.transport.state
    if add = 0 then s.modProtection fun p => { p with windLoad := p.windLoad - 1 }
    else
      let load := min (s.protection.windLoad + add) Config.windOverloadLevel
      let s := s.modProtection fun p => { p with windLoad := load }
      if load = Config.windOverloadLevel then latchProtective .windOverload s else s

/-! ## Counter and reels (R37, R59 to R61) -/

/-- One second of motion without a control-track pulse (R37). -/
def trackTimesOut (s : State) : State :=
  if ¬ s.inHold ∧ s.position.direction ≠ .atRest then s.modPosition fun p => { p with trackPresent := false } else s

/-- The stall timer expires (R59). -/
def stallExpires (s : State) : State :=
  if s.reels.stallTimer.isSome then
    protect .reelStall (s.modReels fun r => { r with stallTimer := none, supervised := none })
  else s

/-- A part of a start burst ends; after burst 8 REEL_STALL is latched (R60, R61). -/
def burstEnds (s : State) : State :=
  match s.reels.burst with
  | .bursting n on =>
    match nextBurst n on with
    | some b => driveReel (s.modReels fun r => { r with burst := b })
    | none => protect .reelStall (driveReel (s.modReels fun r => { r with burst := .none }))
  | _ => s

/-! ## The meanings -/

/-- The outcome of an event that may reach the engine or the supplies. -/
def settled (s : State) : Host.Outcome State Fault Refusal := .next (settle s)

/-- The outcome of an event that reaches neither. -/
def finished (s : State) : Host.Outcome State Fault Refusal := .next (finish s)

/-- CASSETTE_SWITCH_CLOSES (R18). -/
def execCassetteSwitchCloses (s : State) : Host.Outcome State Fault Refusal := settled (cassetteCloses s)

/-- CASSETTE_SWITCH_OPENS (R18, R23). -/
def execCassetteSwitchOpens (s : State) : Host.Outcome State Fault Refusal := settled (cassetteOpens s)

/-- PARKED_SWITCH_CLOSES (R18, R20, R22). -/
def execParkedSwitchCloses (tabPresent : Bool) (s : State) : Host.Outcome State Fault Refusal :=
  settled (parkedCloses tabPresent s)

/-- THREADED_SWITCH_CLOSES (R20, R21). -/
def execThreadedSwitchCloses (s : State) : Host.Outcome State Fault Refusal := settled (threadedCloses s)

/-- INSERT_TIMEOUT (R18). -/
def execInsertTimeout (s : State) : Host.Outcome State Fault Refusal := settled (insertTimedOut s)

/-- THREAD_TIMEOUT (R20). -/
def execThreadTimeout (s : State) : Host.Outcome State Fault Refusal := settled (threadTimedOut s)

/-- THREAD_RETRY_DELAY (R20). -/
def execThreadRetryDelay (s : State) : Host.Outcome State Fault Refusal := finished (retryDelayEnds s)

/-- UNTHREAD_TIMEOUT (R20, R22). -/
def execUnthreadTimeout (s : State) : Host.Outcome State Fault Refusal := settled (unthreadTimedOut s)

/-- EJECT_TIMEOUT (R23). -/
def execEjectTimeout (s : State) : Host.Outcome State Fault Refusal := settled (ejectTimedOut s)

/-- STILL_LIMIT (R24). -/
def execStillLimit (s : State) : Host.Outcome State Fault Refusal := settled (stillLimitExpires s)

/-- REC_PAUSE_LIMIT (R24, R162). -/
def execRecPauseLimit (s : State) : Host.Outcome State Fault Refusal := settled (recPauseLimitExpires s)

/-- STOP_THREADED_LIMIT (R25). -/
def execStopThreadedLimit (s : State) : Host.Outcome State Fault Refusal := settled (stopLimitExpires s)

/-- ONE_TOUCH_TIME_RUNS_OUT (R12). -/
def execOneTouchTimeRunsOut (s : State) : Host.Outcome State Fault Refusal := settled (oneTouchEnds s)

/-- DRUM_SPIN_UP_TIMEOUT (R26). -/
def execDrumSpinUpTimeout (s : State) : Host.Outcome State Fault Refusal := settled (drumSpinUpExpires s)

/-- DRUM_LOST_TIMEOUT (R26). -/
def execDrumLostTimeout (s : State) : Host.Outcome State Fault Refusal := settled (drumLostExpires s)

/-- DRUM_LOCK_CHANGE (R26). -/
def execDrumLockChange (present : Bool) (s : State) : Host.Outcome State Fault Refusal :=
  finished (drumLockChanges present s)

/-- SPEED_SENSE_CHANGE (R3). -/
def execSpeedSenseChange (code : SpeedCode) (s : State) : Host.Outcome State Fault Refusal :=
  finished (speedSenseChanges code s)

/-- TAPE_END_SENSOR_ACTIVE (R27, R28). -/
def execTapeEndSensorActive (active : Bool) (s : State) : Host.Outcome State Fault Refusal :=
  settled (tapeEndBecomes active s)

/-- TAPE_START_SENSOR_ACTIVE (R27). -/
def execTapeStartSensorActive (active : Bool) (s : State) : Host.Outcome State Fault Refusal :=
  settled (tapeStartBecomes active s)

/-- WIND_LOAD_TICK (R31). -/
def execWindLoadTick (s : State) : Host.Outcome State Fault Refusal := settled (windLoadTick s)

/-- CONTROL_TRACK_PULSE (R37, R41 to R44, R48, R50). -/
def execControlTrackPulse (mark : Bool) (s : State) : Host.Outcome State Fault Refusal :=
  settled (controlTrackPulse mark s)

/-- TRACK_STATUS_TIMEOUT (R37). -/
def execTrackStatusTimeout (s : State) : Host.Outcome State Fault Refusal := finished (trackTimesOut s)

/-- REEL_PULSE (R55, R61, R67). -/
def execReelPulse (reel : Reel) (instant : Nat) (s : State) : Host.Outcome State Fault Refusal :=
  finished (reelPulse reel instant s)

/-- STALL_TIMER_EXPIRY (R59). -/
def execStallTimerExpiry (s : State) : Host.Outcome State Fault Refusal := settled (stallExpires s)

/-- BURST_PART_END (R60, R61). -/
def execBurstPartEnd (s : State) : Host.Outcome State Fault Refusal := settled (burstEnds s)

end Sys2Proof.Machine
end

