-- ==== Sys2Proof/Machine/Receiving.lean ====
section
/-!
DEFINITION. The events of the tuner module, the data slicer, the clock's timebases, the engine's and the store's timers
and the supplies (R75, R96, R97, R105 to R107, R116, R156, R160, R168, R169, R174, R176).
-/

namespace Sys2Proof.Machine

/-! ## Lock supervision (R96) -/

/-- A new lock state, TUNER raised where it goes into or out of LOST (R96). -/
def setLockState (x : LockState) (s : State) : State :=
  raiseIf (s.tuner.lock != x && (x == .lost || s.tuner.lock == .lost)) .tuner
    (judgeLive (s.modTuner fun t => { t with lock := x }))

/-- The lock line changes; supervision is not run for search steps, nor without main power (R96, R105). -/
def synthLockChanges (present : Bool) (s : State) : State :=
  let s := s.modPins fun p => { p with synthLock := present }
  if ¬ s.isOn ∨ s.tuner.search.isSome then s
  else
    match s.tuner.lock, present with
    | .settling, true => setLockState .locked s
    | .lost, true => setLockState .locked s
    | .locked, false => setLockState .lost s
    | _, _ => s

/-- 50 ms have passed since the write: LOST, or LOCKED where the line stands present (R96, log entry 18). -/
def settlingEnds (s : State) : State :=
  if s.isOn ∧ s.tuner.search = none ∧ s.tuner.lock = .settling then
    setLockState (if s.pins.synthLock then .locked else .lost) s
  else s

/-- The retry of a lost lock (R96). -/
def retryLock (s : State) : State :=
  if s.tuner.lock = .lost ∧ s.tuner.retrySpent = false ∧ s.tuner.search = none then
    setLockState .settling (writeModule (s.modTuner fun t => { t with retrySpent := true }))
  else s

/-- Whether the AFT correction steps in a window (R97). -/
def Tuner.steps (t : Tuner) : Bool := t.present && t.aft && t.lock == .locked && t.search.isNone

/-- The step of the AFT correction, with AFT_LIMIT at a bound that it reaches (R97). -/
def stepAft (line : AftLine) (s : State) : State :=
  let old := s.tuner.correction
  let new := saturate (-8) 8 (if line = .high then old - 1 else old + 1)
  if s.tuner.steps = false ∨ new = old then s
  else raiseIf (new == 8 || new == -8) .aftLimit (correctionWrite s.tuner.fine s.tuner.aft new s)

/-- An AFT window (R97). -/
def aftWindow (line : AftLine) (s : State) : State := if s.isOn then stepAft line (retryLock s) else s

/-! ## Station search steps (R105 to R107) -/

/-- The tuning after NOT_FOUND, EXHAUSTED or FULL (R106, R107): the first stored preset, else the starting tuning, else
none applied. Of a tuner left with none applied no rule gives the other fields: the lock state becomes OFF, and the base
divider, the applied divider and band, the fine offset and the AFT enable stay as the last search step left them (model's
choice, log entry 43). -/
def tuneAfterSearch (x : StationSearch) (s : State) : State :=
  let stored := fun n => (s.preset n).stored
  match x.firstStored.filter stored, x.starting with
  | some n, _ => tuningWrite ((s.preset n).tuning n) s
  | none, some t =>
    match t.source with
    | .preset n => tuningWrite (if stored n then (s.preset n).tuning n else { t with source := .none }) s
    | _ => tuningWrite t s
  | none, none =>
    raise .tuner (tuningChange (s.modTuner fun t => { t with source := .none, present := false, lock := .off }))

/-- A search ends other than FOUND and ABORTED, at a divider (R107). -/
def searchExhausted (x : StationSearch) (o : StationOutcome) (divider : Nat) (s : State) : State :=
  setTunerHolder (viewOf x.rank x.link) (tuneAfterSearch x (endStationSearch x o divider s))

/-- A SEARCH_STATION ends FOUND (R106). -/
def stationFound (x : StationSearch) (found : Nat) (s : State) : State :=
  let s := tuningWrite ⟨.search, found, 0, true⟩ (endStationSearch x .found found s)
  setTunerHolder (viewOf x.rank x.link) s

/-- Whether a found divider is a duplicate (R106). -/
def State.duplicate (s : State) (found : Nat) : Bool :=
  s.presets.any fun p => p.stored && decide (distance p.divider found ≤ 20)

/-- A search moves on to a divider in a phase: the step is written. -/
def searchTo (x : StationSearch) (phase : StationPhase) (n : Nat) (s : State) : State :=
  stepTo n (setStationSearch { x with phase := phase, divider := n, reading := none, offset := 0 } s)

/-- The next move of 20 units, or the end at the top of the range (R105). -/
def moveOn (x : StationSearch) (phase : StationPhase) (from_ : Nat) (s : State) : State :=
  match x.next from_ with
  | some n => searchTo x phase n s
  | none => searchExhausted x .exhausted from_ s

/-- A found divider of a SEARCH_STORE: stored unless it is a duplicate, and the search goes on in LEAVE (R106). -/
def storeFound (x : StationSearch) (found : Nat) (s : State) : State :=
  if s.duplicate found then moveOn x .leave found s
  else
    match s.lowestPreset Preset.vacant with
    | none => searchExhausted x .full found s
    | some n =>
      let s := writePreset n { Preset.factory with stored := true, divider := found } s
      let x := { x with stored := x.stored + 1, firstStored := x.firstStored <|> some n }
      match s.lowestPreset Preset.vacant with
      | none => searchExhausted x .full found s
      | some _ => moveOn x .leave found s

/-- What a found divider leads to, by kind (R106). -/
def takeFound (x : StationSearch) (found : Nat) (s : State) : State :=
  if x.storing then storeFound x found s else stationFound x found s

/-- The centre offset's next step (R105). -/
def centreStep (reading : AftLine) : Int := if reading = .high then -1 else 1

/-- Whether a divider plus an offset lies in the range. -/
def inDividerRange (n : Int) : Bool := decide ((Config.minDivider : Int) ≤ n ∧ n ≤ Config.maxDivider)

/-- A centring step, or the end of centring at a bound of the offset or of the range (R105). -/
def centreOn (x : StationSearch) (reading : AftLine) (s : State) : State :=
  let next := (x.divider : Int) + x.offset + centreStep reading
  if x.offset.natAbs < 16 ∧ inDividerRange next = true then
    stepTo next.toNat
      (setStationSearch { x with phase := .centre, reading := some reading, offset := x.offset + centreStep reading } s)
  else takeFound x ((x.divider : Int) + x.offset).toNat s

/-- The phases at the end of a step (R105). -/
def stepPhase (x : StationSearch) (sync : Bool) (aft : AftLine) (s : State) : State :=
  match x.phase with
  | .leave => if sync then moveOn x .leave x.divider s else searchTo x .seek x.divider s
  | .seek => if sync then centreOn { x with offset := 0 } aft s else moveOn x .seek x.divider s
  | .centre =>
    match x.reading with
    | some r => if aft = r then centreOn x r s else takeFound x ((x.divider : Int) + x.offset).toNat s
    | none => centreOn x aft s

/-- Whether a SEARCH_STATION has covered the whole range (R106). -/
def coveredRange (s : State) : Option StationSearch :=
  s.tuner.search.filter fun x => !x.storing && decide (Config.fullRangeSteps ≤ x.steps)

/-- The end of a 30 ms search step (R105): one more step taken, the phase's move, and NOT_FOUND once the range is
covered, at the divider moved to (log entry 43). -/
def searchStepEnds (sync lock : Bool) (aft : AftLine) (s : State) : State :=
  let s := s.modPins fun p => { p with synthLock := lock }
  match s.tuner.search with
  | none => s
  | some x =>
    if ¬ s.isOn then s
    else
      let x := { x with steps := min (x.steps + 1) Config.fullRangeSteps }
      let s := stepPhase x (sync && lock) aft (setStationSearch x s)
      match coveredRange s with
      | some y => searchExhausted y .notFound y.divider s
      | none => s

/-! ## The meanings -/

/-- MAINS_CYCLE (R75, R76, R78). -/
def execMainsCycle (s : State) : Host.Outcome State Fault Refusal := settled (mainsCycle s)

/-- CRYSTAL_TICK (R75, R76, R78). -/
def execCrystalTick (s : State) : Host.Outcome State Fault Refusal := settled (crystalTick s)

/-- DATA_SLICER_BYTE (R116 to R119). -/
def execDataSlicerByte (byte : SlicerByte) (parityGood : Bool) (s : State) : Host.Outcome State Fault Refusal :=
  settled (slicerByte byte parityGood s)

/-- QUIET_TIMER_EXPIRY (R116). -/
def execQuietTimerExpiry (s : State) : Host.Outcome State Fault Refusal := finished (s.modReceiver Receiver.quiet)

/-- GAP_TIMER_EXPIRY (R117, R118). -/
def execGapTimerExpiry (s : State) : Host.Outcome State Fault Refusal := finished (s.modReceiver Receiver.gap)

/-- SYNTH_LOCK_CHANGE (R96). -/
def execSynthLockChange (present : Bool) (s : State) : Host.Outcome State Fault Refusal :=
  finished (synthLockChanges present s)

/-- SETTLING_TIMEOUT (R96). -/
def execSettlingTimeout (s : State) : Host.Outcome State Fault Refusal := finished (settlingEnds s)

/-- AFT_WINDOW (R96, R97). -/
def execAftWindow (line : AftLine) (s : State) : Host.Outcome State Fault Refusal := finished (aftWindow line s)

/-- SEARCH_STEP_END (R105 to R107). -/
def execSearchStepEnd (sync lock : Bool) (aft : AftLine) (s : State) : Host.Outcome State Fault Refusal :=
  settled (searchStepEnds sync lock aft s)

/-- SILENCE_TIMER_EXPIRY (R156). -/
def execSilenceTimerExpiry (s : State) : Host.Outcome State Fault Refusal := settled (silenceExpired s)

/-- POWER_RETURN_TIMER_EXPIRY (R160). -/
def execPowerReturnTimerExpiry (s : State) : Host.Outcome State Fault Refusal := settled (powerReturnExpired s)

/-- STORE_WRITE_ACK (R176). -/
def execStoreWriteAck (s : State) : Host.Outcome State Fault Refusal := finished (writeAcknowledged s)

/-- STORE_WRITE_TIMEOUT (R176). -/
def execStoreWriteTimeout (s : State) : Host.Outcome State Fault Refusal := finished (writeFailed s)

/-- MAINS_LOSS (R33, R168). -/
def execMainsLoss (s : State) : Host.Outcome State Fault Refusal := settled (mainsLoss s)

/-- MAINS_RESTORE (R34, R169). -/
def execMainsRestore (readings : Readings) (s : State) : Host.Outcome State Fault Refusal :=
  settled (mainsRestore readings s)

/-- COLD_START (R174, R177). -/
def execColdStart (mains : Bool) (readings : Readings) (failed : AreaFlags) (s : State) :
    Host.Outcome State Fault Refusal :=
  settled (coldStart mains readings failed s)

/-- LINE_RESET (R174). -/
def execLineReset (readings : Readings) (s : State) : Host.Outcome State Fault Refusal :=
  settled (lineReset readings s)

end Sys2Proof.Machine
end

