-- ==== Sys2Proof/Machine/LinkCommands.lean ====
section
/-!
DEFINITION. The meaning of every command that a link sends: a frame around the owning block's answer (R182 to R184).
-/

namespace Sys2Proof.Machine

/-- The outcome of a frame whose request may reach the transport, the engine or the supplies. -/
def acting (l : Link) (r : Rank) (body : Rank → State → Answered) (s : State) : Host.Outcome State Fault Refusal :=
  .next (request l r body s)

/-- The outcome of a frame whose request reaches none of them. -/
def answering (l : Link) (r : Rank) (body : Rank → State → Answered) (s : State) : Host.Outcome State Fault Refusal :=
  .next (quietRequest l r body s)

/-! ## The port's own -/

/-- FRAME_DISCARDED (R182). -/
def execFrameDiscarded (l : Link) (_edges : Nat) (s : State) : Host.Outcome State Fault Refusal :=
  .next (discardFrame l s)

/-- BAD_REQUEST (R183). -/
def execBadRequest (l : Link) (w : Frame) (s : State) : Host.Outcome State Fault Refusal :=
  answering l (Sys2Proof.Frame.rank w) (fun _ s => refuse .badRequest s) s

/-- NOP (R184). -/
def execNop (l : Link) (r : Rank) (_arg : Arg) (s : State) : Host.Outcome State Fault Refusal :=
  answering l r (fun _ s => accept s) s

/-- WRITE of the mask (R188). -/
def execWriteMask (l : Link) (r : Rank) (sel : Selector) (value : Value) (s : State) :
    Host.Outcome State Fault Refusal :=
  answering l r (fun _ s => writeMask l sel value s) s

/-- TAKE (R189). -/
def execTake (l : Link) (r : Rank) (selection : Arg) (s : State) : Host.Outcome State Fault Refusal :=
  answering l r (fun _ s => takeKinds l selection s) s

/-- RESET_LINK (R190). -/
def execResetLink (l : Link) (_r : Rank) (_arg : Arg) (s : State) : Host.Outcome State Fault Refusal :=
  .next (resetLink l s)

/-! ## READ -/

/-- READ_TRANSPORT_DETAIL (R35). -/
def execReadTransportDetail (l : Link) (r : Rank) (item : Value) (s : State) : Host.Outcome State Fault Refusal :=
  answering l r (fun _ s => readItem l 0 item (some (transportDetail s)) s) s

/-- READ_FAULTS (R29). -/
def execReadFaults (l : Link) (r : Rank) (item : Value) (s : State) : Host.Outcome State Fault Refusal :=
  answering l r (fun _ s => readItem l 1 item (some (faultsItem s)) s) s

/-- READ_COUNTER (R38). -/
def execReadCounter (l : Link) (r : Rank) (item : Value) (s : State) : Host.Outcome State Fault Refusal :=
  answering l r (fun _ s => readItem l 2 item (some (counterItem s)) s) s

/-- READ_INDEX_LIST_ENTRY (R45). -/
def execReadIndexListEntry (l : Link) (r : Rank) (item : Value) (s : State) : Host.Outcome State Fault Refusal :=
  answering l r (fun _ s => readItem l 3 item (indexEntry s item.toNat) s) s

/-- READ_GAUGE (R72). -/
def execReadGauge (l : Link) (r : Rank) (item : Value) (s : State) : Host.Outcome State Fault Refusal :=
  answering l r (fun _ s => readItem l 4 item (gaugeItem s item.toNat) s) s

/-- READ_TIME (R83). -/
def execReadTime (l : Link) (r : Rank) (s : State) : Host.Outcome State Fault Refusal :=
  answering l r (fun _ s => readTime l s) s

/-- READ_DATE (R83). -/
def execReadDate (l : Link) (r : Rank) (s : State) : Host.Outcome State Fault Refusal :=
  answering l r (fun _ s => readDate l s) s

/-- READ_CLOCK_STATUS (R82). -/
def execReadClockStatus (l : Link) (r : Rank) (item : Value) (s : State) : Host.Outcome State Fault Refusal :=
  answering l r (fun _ s => readItem l 5 item (clockItem s l item.toNat) s) s

/-- READ_TUNER_STATUS (R113). -/
def execReadTunerStatus (l : Link) (r : Rank) (item : Value) (s : State) : Host.Outcome State Fault Refusal :=
  answering l r (fun _ s => readItem l 6 item (tunerItem s item.toNat) s) s

/-- READ_APPLIED_PRESET (R113). -/
def execReadAppliedPreset (l : Link) (r : Rank) (item : Value) (s : State) : Host.Outcome State Fault Refusal :=
  answering l r (fun _ s => readItem l 7 item (presetItem s item.toNat) s) s

/-- READ_LABEL (R124). -/
def execReadLabel (l : Link) (r : Rank) (s : State) : Host.Outcome State Fault Refusal :=
  answering l r (fun _ s => readLabel l s) s

/-- READ_LABEL_SECOND_PART (R124). -/
def execReadLabelSecondPart (l : Link) (r : Rank) (s : State) : Host.Outcome State Fault Refusal :=
  answering l r (fun _ s => readLabelSecond l s) s

/-- READ_RECEIVER_STATUS (R125). -/
def execReadReceiverStatus (l : Link) (r : Rank) (item : Value) (s : State) : Host.Outcome State Fault Refusal :=
  answering l r (fun _ s => readItem l 8 item (receiverItem s l item.toNat) s) s

/-- READ_EVENT_WORK_RECORD_FIELD (R134). -/
def execReadEventWorkRecordField (l : Link) (r : Rank) (item : Value) (s : State) :
    Host.Outcome State Fault Refusal :=
  answering l r (fun _ s => readItem l 9 item (eventWorkItem s l item.toNat) s) s

/-- READ_PRESET_WORK_RECORD_FIELD (R110). -/
def execReadPresetWorkRecordField (l : Link) (r : Rank) (item : Value) (s : State) :
    Host.Outcome State Fault Refusal :=
  answering l r (fun _ s => readItem l 10 item (presetWorkItem s l item.toNat) s) s

/-- READ_TIMER_STATUS (R166). -/
def execReadTimerStatus (l : Link) (r : Rank) (item : Value) (s : State) : Host.Outcome State Fault Refusal :=
  answering l r (fun _ s => readItem l 11 item (timerItem s item.toNat) s) s

/-- READ_SETTINGS (R179). -/
def execReadSettings (l : Link) (r : Rank) (item : Value) (s : State) : Host.Outcome State Fault Refusal :=
  answering l r (fun _ s => readItem l 12 item (settingsItem s item.toNat) s) s

/-- READ_LINK_STATUS (R189). -/
def execReadLinkStatus (l : Link) (r : Rank) (item : Value) (s : State) : Host.Outcome State Fault Refusal :=
  answering l r (fun _ s => linkStatus l item s) s

/-- READ_NEXT_WORD (R186). -/
def execReadNextWord (l : Link) (r : Rank) (code : Code) (index : Selector) (item : Value) (s : State) :
    Host.Outcome State Fault Refusal :=
  answering l r (fun _ s => nextWord l code index item s) s

/-! ## WRITE -/

/-- WRITE_EVENT_WORK_RECORD_FIELD (R134). -/
def execWriteEventWorkRecordField (l : Link) (r : Rank) (field : Selector) (value : Value) (s : State) :
    Host.Outcome State Fault Refusal :=
  answering l r (fun _ s => writeEventWork l field value s) s

/-- WRITE_PRESET_WORK_RECORD_FIELD (R110). -/
def execWritePresetWorkRecordField (l : Link) (r : Rank) (field : Selector) (value : Value) (s : State) :
    Host.Outcome State Fault Refusal :=
  answering l r (fun _ s => writePresetWork l field value s) s

/-- CAPTURE (R110). -/
def execCapture (l : Link) (r : Rank) (value : Value) (s : State) : Host.Outcome State Fault Refusal :=
  answering l r (fun _ s => capture l 9 value s) s

/-- WRITE_SETTING (R178). -/
def execWriteSetting (l : Link) (r : Rank) (number : Selector) (value : Value) (s : State) :
    Host.Outcome State Fault Refusal :=
  acting l r (fun r s => writeSetting l r number value s) s

/-! ## Transport -/

/-- PLAY (R10). -/
def execPlay (l : Link) (r : Rank) (_arg : Arg) (s : State) : Host.Outcome State Fault Refusal :=
  acting l r (fun r s => requestTransport l r .play s) s

/-- The reply of RECORD: 8 as a note when the one-touch argument was clamped (R12). -/
def recordNote (arg : Arg) (a : Answered) : Answered :=
  match a with
  | (.refuse why, s) => (.refuse why, s)
  | (.reply _, s) => if 8 < arg.toNat then acceptValue 8 s else accept s

/-- RECORD (R11, R12). -/
def execRecord (l : Link) (r : Rank) (arg : Arg) (s : State) : Host.Outcome State Fault Refusal :=
  acting l r (fun r s => recordNote arg (requestTransport l r (.record (.link (min arg.toNat 8))) s)) s

/-- STOP, with the user stop under TIMER reported to the engine (R5, R13, R161). -/
def stopRequest (l : Link) (r : Rank) (s : State) : Answered :=
  match requestTransport l r .stop s with
  | (.reply d, s') => (.reply d, if s.transport.holder = .timer then userStop s' else s')
  | refused => refused

/-- STOP (R13). -/
def execStop (l : Link) (r : Rank) (_arg : Arg) (s : State) : Host.Outcome State Fault Refusal :=
  acting l r (fun r s => stopRequest l r s) s

/-- PAUSE (R14). -/
def execPause (l : Link) (r : Rank) (_arg : Arg) (s : State) : Host.Outcome State Fault Refusal :=
  acting l r (fun r s => requestTransport l r .pause s) s

/-- CUE (R15). -/
def execCue (l : Link) (r : Rank) (_arg : Arg) (s : State) : Host.Outcome State Fault Refusal :=
  acting l r (fun r s => requestTransport l r .cue s) s

/-- REVIEW (R15). -/
def execReview (l : Link) (r : Rank) (_arg : Arg) (s : State) : Host.Outcome State Fault Refusal :=
  acting l r (fun r s => requestTransport l r .review s) s

/-- FWIND (R16). -/
def execFwind (l : Link) (r : Rank) (_arg : Arg) (s : State) : Host.Outcome State Fault Refusal :=
  acting l r (fun r s => requestTransport l r .fwind s) s

/-- RWIND (R16). -/
def execRwind (l : Link) (r : Rank) (_arg : Arg) (s : State) : Host.Outcome State Fault Refusal :=
  acting l r (fun r s => requestTransport l r .rwind s) s

/-- EJECT (R17). -/
def execEject (l : Link) (r : Rank) (_arg : Arg) (s : State) : Host.Outcome State Fault Refusal :=
  acting l r (fun r s => requestTransport l r .eject s) s

/-- CLEAR_FAULTS (R32). -/
def execClearFaults (l : Link) (r : Rank) (_arg : Arg) (s : State) : Host.Outcome State Fault Refusal :=
  acting l r (fun r s => clearFaults l r s) s

/-! ## Counter, gauge, clock -/

/-- RESET_COUNTER (R39). -/
def execResetCounter (l : Link) (r : Rank) (_arg : Arg) (s : State) : Host.Outcome State Fault Refusal :=
  acting l r (fun _ s => accept (resetCounter s)) s

/-- MEMORY_STOP (R41). -/
def execMemoryStop (l : Link) (r : Rank) (arg : Arg) (s : State) : Host.Outcome State Fault Refusal :=
  answering l r (fun _ s => setMemoryStop arg s) s

/-- SEARCH_COUNTER (R47, R48). -/
def execSearchCounter (l : Link) (r : Rank) (arg : Arg) (s : State) : Host.Outcome State Fault Refusal :=
  acting l r (fun r s => requestSearch l r (counterSearch s l r arg) s) s

/-- SEARCH_INDEX (R47, R49). -/
def execSearchIndex (l : Link) (r : Rank) (arg : Arg) (s : State) : Host.Outcome State Fault Refusal :=
  acting l r (fun r s => requestSearch l r (indexSearch l r arg) s) s

/-- SET_CASSETTE_CLASS (R65). -/
def execSetCassetteClass (l : Link) (r : Rank) (arg : Arg) (s : State) : Host.Outcome State Fault Refusal :=
  answering l r (fun _ s => setCassetteClass arg s) s

/-- SET_DATE (R80). -/
def execSetDate (l : Link) (r : Rank) (arg : Arg) (s : State) : Host.Outcome State Fault Refusal :=
  answering l r (fun _ s => setDate l arg s) s

/-- SET_TIME (R81). -/
def execSetTime (l : Link) (r : Rank) (arg : Arg) (s : State) : Host.Outcome State Fault Refusal :=
  acting l r (fun _ s => setTime l arg s) s

/-! ## Tuner and presets -/

/-- SELECT_PRESET (R99). -/
def execSelectPreset (l : Link) (r : Rank) (arg : Arg) (s : State) : Host.Outcome State Fault Refusal :=
  acting l r (fun r s => selectPreset l r arg s) s

/-- TUNE_STEP (R100). -/
def execTuneStep (l : Link) (r : Rank) (arg : Arg) (s : State) : Host.Outcome State Fault Refusal :=
  acting l r (fun r s => tuneStep l r arg s) s

/-- SEARCH_STATION (R104). -/
def execSearchStation (l : Link) (r : Rank) (arg : Arg) (s : State) : Host.Outcome State Fault Refusal :=
  acting l r (fun r s => searchStation l r arg s) s

/-- SEARCH_STORE (R104). -/
def execSearchStore (l : Link) (r : Rank) (arg : Arg) (s : State) : Host.Outcome State Fault Refusal :=
  acting l r (fun r s => searchStore l r arg s) s

/-- FETCH_PRESET (R111). -/
def execFetchPreset (l : Link) (r : Rank) (arg : Arg) (s : State) : Host.Outcome State Fault Refusal :=
  answering l r (fun _ s => fetchPreset l arg s) s

/-- STORE_PRESET (R112). -/
def execStorePreset (l : Link) (r : Rank) (_arg : Arg) (s : State) : Host.Outcome State Fault Refusal :=
  answering l r (fun _ s => storePreset l s) s

/-! ## Events, timer, power -/

/-- FETCH_EVENT (R133). -/
def execFetchEvent (l : Link) (r : Rank) (arg : Arg) (s : State) : Host.Outcome State Fault Refusal :=
  answering l r (fun _ s => fetchEvent l arg s) s

/-- STORE_EVENT (R135, R136). -/
def execStoreEvent (l : Link) (r : Rank) (_arg : Arg) (s : State) : Host.Outcome State Fault Refusal :=
  acting l r (fun r s => storeEvent l r s) s

/-- NEW_EVENT (R137). -/
def execNewEvent (l : Link) (r : Rank) (_arg : Arg) (s : State) : Host.Outcome State Fault Refusal :=
  acting l r (fun r s => newEvent l r s) s

/-- DELETE_EVENT (R138). -/
def execDeleteEvent (l : Link) (r : Rank) (arg : Arg) (s : State) : Host.Outcome State Fault Refusal :=
  acting l r (fun r s => deleteEvent r arg s) s

/-- TIMER_ON_OFF (R144). -/
def execTimerOnOff (l : Link) (r : Rank) (arg : Arg) (s : State) : Host.Outcome State Fault Refusal :=
  acting l r (fun r s => timerOnOff r arg.toNat s) s

/-- TIMER_LOCK_UNLOCK with an argument other than 0 (R145). -/
def execTimerLock (l : Link) (r : Rank) (arg : Arg) (s : State) : Host.Outcome State Fault Refusal :=
  acting l r (fun r s => timerLockUnlock r arg.toNat s) s

/-- TIMER_LOCK_UNLOCK with argument 0 (R145). -/
def execTimerUnlock (l : Link) (r : Rank) (s : State) : Host.Outcome State Fault Refusal :=
  acting l r (fun r s => timerLockUnlock r 0 s) s

/-- POWER with an argument other than 0 (R170). -/
def execPowerOn (l : Link) (r : Rank) (arg : Arg) (s : State) : Host.Outcome State Fault Refusal :=
  acting l r (fun r s => powerRequest l r arg.toNat s) s

/-- POWER OFF (R170). -/
def execPowerOff (l : Link) (r : Rank) (s : State) : Host.Outcome State Fault Refusal :=
  acting l r (fun r s => powerRequest l r 0 s) s

end Sys2Proof.Machine
end

