-- ==== Sys2Proof/Machine/Dispatch.lean ====
section
/-!
DEFINITION. One arm for every command, each a direct call of its meaning.
-/

namespace Sys2Proof.Machine

def exec (i : Instr) (s : State) : Host.Outcome State Fault Refusal :=
  match i with
  | .frameDiscarded l edges => Sys2Proof.Machine.execFrameDiscarded l edges s
  | .badRequest l w => Sys2Proof.Machine.execBadRequest l w s
  | .nop l r arg => Sys2Proof.Machine.execNop l r arg s
  | .readTransportDetail l r item => Sys2Proof.Machine.execReadTransportDetail l r item s
  | .readFaults l r item => Sys2Proof.Machine.execReadFaults l r item s
  | .readCounter l r item => Sys2Proof.Machine.execReadCounter l r item s
  | .readIndexListEntry l r item => Sys2Proof.Machine.execReadIndexListEntry l r item s
  | .readGauge l r item => Sys2Proof.Machine.execReadGauge l r item s
  | .readTime l r => Sys2Proof.Machine.execReadTime l r s
  | .readDate l r => Sys2Proof.Machine.execReadDate l r s
  | .readClockStatus l r item => Sys2Proof.Machine.execReadClockStatus l r item s
  | .readTunerStatus l r item => Sys2Proof.Machine.execReadTunerStatus l r item s
  | .readAppliedPreset l r item => Sys2Proof.Machine.execReadAppliedPreset l r item s
  | .readLabel l r => Sys2Proof.Machine.execReadLabel l r s
  | .readLabelSecondPart l r => Sys2Proof.Machine.execReadLabelSecondPart l r s
  | .readReceiverStatus l r item => Sys2Proof.Machine.execReadReceiverStatus l r item s
  | .readEventWorkRecordField l r item => Sys2Proof.Machine.execReadEventWorkRecordField l r item s
  | .readPresetWorkRecordField l r item => Sys2Proof.Machine.execReadPresetWorkRecordField l r item s
  | .readTimerStatus l r item => Sys2Proof.Machine.execReadTimerStatus l r item s
  | .readSettings l r item => Sys2Proof.Machine.execReadSettings l r item s
  | .readLinkStatus l r item => Sys2Proof.Machine.execReadLinkStatus l r item s
  | .readNextWord l r code index item => Sys2Proof.Machine.execReadNextWord l r code index item s
  | .writeEventWorkRecordField l r field value => Sys2Proof.Machine.execWriteEventWorkRecordField l r field value s
  | .writePresetWorkRecordField l r field value => Sys2Proof.Machine.execWritePresetWorkRecordField l r field value s
  | .capture l r value => Sys2Proof.Machine.execCapture l r value s
  | .writeMask l r selector value => Sys2Proof.Machine.execWriteMask l r selector value s
  | .writeSetting l r number value => Sys2Proof.Machine.execWriteSetting l r number value s
  | .play l r arg => Sys2Proof.Machine.execPlay l r arg s
  | .record l r arg => Sys2Proof.Machine.execRecord l r arg s
  | .stop l r arg => Sys2Proof.Machine.execStop l r arg s
  | .pause l r arg => Sys2Proof.Machine.execPause l r arg s
  | .cue l r arg => Sys2Proof.Machine.execCue l r arg s
  | .review l r arg => Sys2Proof.Machine.execReview l r arg s
  | .fwind l r arg => Sys2Proof.Machine.execFwind l r arg s
  | .rwind l r arg => Sys2Proof.Machine.execRwind l r arg s
  | .eject l r arg => Sys2Proof.Machine.execEject l r arg s
  | .clearFaults l r arg => Sys2Proof.Machine.execClearFaults l r arg s
  | .resetCounter l r arg => Sys2Proof.Machine.execResetCounter l r arg s
  | .memoryStop l r arg => Sys2Proof.Machine.execMemoryStop l r arg s
  | .searchCounter l r arg => Sys2Proof.Machine.execSearchCounter l r arg s
  | .searchIndex l r arg => Sys2Proof.Machine.execSearchIndex l r arg s
  | .setCassetteClass l r arg => Sys2Proof.Machine.execSetCassetteClass l r arg s
  | .setDate l r arg => Sys2Proof.Machine.execSetDate l r arg s
  | .setTime l r arg => Sys2Proof.Machine.execSetTime l r arg s
  | .selectPreset l r arg => Sys2Proof.Machine.execSelectPreset l r arg s
  | .tuneStep l r arg => Sys2Proof.Machine.execTuneStep l r arg s
  | .searchStation l r arg => Sys2Proof.Machine.execSearchStation l r arg s
  | .searchStore l r arg => Sys2Proof.Machine.execSearchStore l r arg s
  | .fetchPreset l r arg => Sys2Proof.Machine.execFetchPreset l r arg s
  | .storePreset l r arg => Sys2Proof.Machine.execStorePreset l r arg s
  | .fetchEvent l r arg => Sys2Proof.Machine.execFetchEvent l r arg s
  | .storeEvent l r arg => Sys2Proof.Machine.execStoreEvent l r arg s
  | .newEvent l r arg => Sys2Proof.Machine.execNewEvent l r arg s
  | .deleteEvent l r arg => Sys2Proof.Machine.execDeleteEvent l r arg s
  | .timerOnOff l r arg => Sys2Proof.Machine.execTimerOnOff l r arg s
  | .timerLock l r arg => Sys2Proof.Machine.execTimerLock l r arg s
  | .timerUnlock l r => Sys2Proof.Machine.execTimerUnlock l r s
  | .powerOn l r arg => Sys2Proof.Machine.execPowerOn l r arg s
  | .powerOff l r => Sys2Proof.Machine.execPowerOff l r s
  | .resetLink l r arg => Sys2Proof.Machine.execResetLink l r arg s
  | .take l r selection => Sys2Proof.Machine.execTake l r selection s
  | .cassetteSwitchCloses => Sys2Proof.Machine.execCassetteSwitchCloses s
  | .cassetteSwitchOpens => Sys2Proof.Machine.execCassetteSwitchOpens s
  | .parkedSwitchCloses tabPresent => Sys2Proof.Machine.execParkedSwitchCloses tabPresent s
  | .threadedSwitchCloses => Sys2Proof.Machine.execThreadedSwitchCloses s
  | .insertTimeout => Sys2Proof.Machine.execInsertTimeout s
  | .threadTimeout => Sys2Proof.Machine.execThreadTimeout s
  | .threadRetryDelay => Sys2Proof.Machine.execThreadRetryDelay s
  | .unthreadTimeout => Sys2Proof.Machine.execUnthreadTimeout s
  | .ejectTimeout => Sys2Proof.Machine.execEjectTimeout s
  | .stillLimit => Sys2Proof.Machine.execStillLimit s
  | .recPauseLimit => Sys2Proof.Machine.execRecPauseLimit s
  | .stopThreadedLimit => Sys2Proof.Machine.execStopThreadedLimit s
  | .oneTouchTimeRunsOut => Sys2Proof.Machine.execOneTouchTimeRunsOut s
  | .drumSpinUpTimeout => Sys2Proof.Machine.execDrumSpinUpTimeout s
  | .drumLostTimeout => Sys2Proof.Machine.execDrumLostTimeout s
  | .drumLockChange present => Sys2Proof.Machine.execDrumLockChange present s
  | .speedSenseChange code => Sys2Proof.Machine.execSpeedSenseChange code s
  | .tapeEndSensorActive active => Sys2Proof.Machine.execTapeEndSensorActive active s
  | .tapeStartSensorActive active => Sys2Proof.Machine.execTapeStartSensorActive active s
  | .windLoadTick => Sys2Proof.Machine.execWindLoadTick s
  | .controlTrackPulse mark => Sys2Proof.Machine.execControlTrackPulse mark s
  | .trackStatusTimeout => Sys2Proof.Machine.execTrackStatusTimeout s
  | .reelPulse reel instant => Sys2Proof.Machine.execReelPulse reel instant s
  | .stallTimerExpiry => Sys2Proof.Machine.execStallTimerExpiry s
  | .burstPartEnd => Sys2Proof.Machine.execBurstPartEnd s
  | .mainsCycle => Sys2Proof.Machine.execMainsCycle s
  | .crystalTick => Sys2Proof.Machine.execCrystalTick s
  | .dataSlicerByte byte parityGood => Sys2Proof.Machine.execDataSlicerByte byte parityGood s
  | .quietTimerExpiry => Sys2Proof.Machine.execQuietTimerExpiry s
  | .gapTimerExpiry => Sys2Proof.Machine.execGapTimerExpiry s
  | .synthLockChange present => Sys2Proof.Machine.execSynthLockChange present s
  | .settlingTimeout => Sys2Proof.Machine.execSettlingTimeout s
  | .aftWindow line => Sys2Proof.Machine.execAftWindow line s
  | .searchStepEnd sync lock aft => Sys2Proof.Machine.execSearchStepEnd sync lock aft s
  | .silenceTimerExpiry => Sys2Proof.Machine.execSilenceTimerExpiry s
  | .powerReturnTimerExpiry => Sys2Proof.Machine.execPowerReturnTimerExpiry s
  | .storeWriteAck => Sys2Proof.Machine.execStoreWriteAck s
  | .storeWriteTimeout => Sys2Proof.Machine.execStoreWriteTimeout s
  | .mainsLoss => Sys2Proof.Machine.execMainsLoss s
  | .mainsRestore readings => Sys2Proof.Machine.execMainsRestore readings s
  | .coldStart mains readings failed => Sys2Proof.Machine.execColdStart mains readings failed s
  | .lineReset readings => Sys2Proof.Machine.execLineReset readings s

end Sys2Proof.Machine
end

