-- ==== Sys2Proof/Safety.lean ====
section
/-!
DEFINITION. What counts as a safe run of the part: the laws that every step keeps, the conditions under which a command's
own effect is all that a step does, and the shape of the ports after a step.
-/

namespace Sys2Proof.Machine

/-! ## Laws -/

/-- R188: a port asserts its attention line exactly when its link is live and an unmasked kind is pending. -/
def AttentionLaw (s : State) : Prop :=
  ∀ l : Link, (s.port l).attention = (liveIn s.power.state l && (s.port l).pending &&& ~~~(s.port l).mask != 0)

/-- R176: outside HOLD an IDLE writer leaves no area dirty. -/
def WriterLaw (s : State) : Prop :=
  s.power.state = .hold ∨ s.store.writer ≠ none ∨ ∀ a : Area, flagOf s.store.dirty a = false

/-- R31: the wind load accumulator stays within 0..9600, and WIND_OVERLOAD is present whenever it equals 9600. -/
def WindLoadLaw (s : State) : Prop :=
  s.protection.windLoad ≤ 9600 ∧ (s.protection.windLoad = 9600 → s.protection.faults.windOverload = true)

/-- The state in which a mechanism timer of a motion runs (R18, R20, R22, R23). -/
def MotionTimer.home : MotionTimer → Option TState
  | .stopped => none
  | .insert => some .inserting
  | .threadFirst | .threadReversal | .threadDelay | .threadSecond => some .threading
  | .unthread => some .unthreading
  | .eject => some .ejecting

/-- The state in which a limit runs (R24, R25). -/
def LimitTimer.home : LimitTimer → Option TState
  | .stopped => none
  | .still => some .still
  | .recPause => some .recPause
  | .stopThreaded => some .stop

/-- R12, R18, R20, R22 to R26: the drum phase is OFF exactly outside the drum states, a one-touch time stands only in
RECORD and REC_PAUSE, and each timer runs only in the state it bounds. -/
def TimersLaw (s : State) : Prop :=
  let t := s.transport
  (t.drum = .off ↔ t.state.drumState = false) ∧
  (t.oneTouch ≠ none → t.state = .record ∨ t.state = .recPause) ∧
  (∀ x, t.motion.home = some x → t.state = x) ∧
  (∀ x, t.limit.home = some x → t.state = x)

/-- A safe state: every law holds in it. -/
def Safe (s : State) : Prop := AttentionLaw s ∧ WriterLaw s ∧ WindLoadLaw s ∧ TimersLaw s

/-- R2, R60: outside HOLD the mechanism outputs are those of the transport's row, a retry moving the threading motor and the
start bursts the reel drive; R167: the relay closes the tuner's and the servo's supply exactly in ON. -/
def OutputsLaw (s : State) : Prop :=
  let o := s.outputs
  let t := s.transport
  o.relay = (s.power.state == .on) ∧
  (s.power.state ≠ .hold →
    o.capstan = (match t.state with
      | .play => .run t.speed false 1
      | .still => .run t.speed false 0
      | .record => .run t.recordSpeed false 1
      | .recPause => .run t.recordSpeed false 0
      | .cue => .run t.speed false 7
      | .review => .run t.speed true 7
      | _ => .halt) ∧
    o.reel = (match t.state, s.reels.burst with
      | .play, _ | .record, _ | .cue, _ => .takeUpTension
      | .review, _ => .supplyTension
      | .fwind, .full => .fullForward
      | .fwind, .bursting _ true => .forward
      | .rwind, .full => .fullReverse
      | .rwind, .bursting _ true => .reverse
      | _, _ => .off) ∧
    o.brake = (match t.state with
      | .threading | .unthreading | .play | .record | .cue | .review | .fwind | .rwind => false
      | _ => true) ∧
    o.recordEnable = (t.state == .record) ∧
    o.loading = (match t.state with
      | .inserting => .inward
      | .ejecting => .outward
      | _ => .off) ∧
    o.threading = (match t.state, t.motion with
      | .threading, .threadReversal => .outward
      | .threading, .threadDelay => .off
      | .threading, _ => .inward
      | .unthreading, _ => .outward
      | _, _ => .off))

/-- R29, R37, R39: the transport is in FAULT exactly while a jam is latched, the counter's direction is the tape's motion, and
with no cassette in the deck, or one on its way in, the counter is 0 and the index list empty. -/
def MechanismLaw (s : State) : Prop :=
  (s.transport.state = .fault ↔
    s.protection.faults.threadJam ∨ s.protection.faults.unthreadJam ∨ s.protection.faults.ejectJam) ∧
  s.position.direction = (match s.transport.state with
    | .play | .record | .cue | .fwind => .forward
    | .review | .rwind => .reverse
    | _ => .atRest) ∧
  (s.transport.state = .empty ∨ s.transport.state = .inserting → s.position.counter = 0 ∧ s.position.index = [])

/-- The applied divider: the sum, held within 1658..18178 (R95). -/
def appliedSum (base : Nat) (fine correction : Int) : Nat :=
  (max 1658 (min 18178 ((base : Int) + fine + correction))).toNat

/-- R95, R103, R171: with main power not ON the tuner is unlocked, uncorrected, unwritten and unsearched, no switch-off waits
and Link G has nothing pending; with it ON the module holds the applied divider, if there is one. -/
def TunerLaw (s : State) : Prop :=
  let t := s.tuner
  t.divider = appliedSum t.base t.fine t.correction ∧ t.band = bandOf t.divider ∧
  (s.power.state = .on → t.present = true → s.outputs.tunerWord = some t.divider) ∧
  (s.power.state ≠ .on →
    t.lock = .off ∧ t.correction = 0 ∧ t.search = none ∧ s.outputs.tunerWord = none ∧ s.power.pendingOff = none ∧
    (s.port .g).pending = 0 ∧ s.receiver.labels = [])

/-- R75, R115, R144: the receiver is live exactly under its three conditions, the clock's source is the one that the setting
and the mains give, and the engine's mode is the setting *timer on*. -/
def UnitsLaw (s : State) : Prop :=
  s.receiver.live = (s.power.state == .on && s.tuner.lock == LockState.locked && s.tuner.search.isNone) ∧
  s.clock.source = (if s.settings.timebase = .mains ∧ s.power.state ≠ .hold then .mains else .crystal) ∧
  s.engine.mode = s.settings.timerOn

/-- R171 to R174, R181: the power-raised-by-timer flag is off in STANDBY, a current occurrence is there only ending, a cold
start that waits for mains waits in HOLD, and a link that is not live holds data out low with no frame in progress. -/
def PowerLaw (s : State) : Prop :=
  (s.power.state = .standby → s.power.raised = false ∧ ∀ o, s.engine.current = some o → o.phase = .ending) ∧
  (s.power.coldPending = true → s.power.state = .hold ∧ s.power.raised = false ∧ s.engine.current = none) ∧
  ∀ l : Link, liveIn s.power.state l = false → (s.port l).outgoing = 0 ∧ (s.port l).frame = none

/-- R7, R102: the transport's holder and the tuner's are TIMER exactly while a current occurrence in a phase but WAITING has
made its takes; R104: the tuner's holder is SEARCH exactly while a station search runs. -/
def HoldersLaw (s : State) : Prop :=
  let held : Prop := ∃ o, s.engine.current = some o ∧ o.held = true ∧ o.phase ≠ .waiting
  (∀ o, s.engine.current = some o → o.phase = .ending ∨ (o.phase = .waiting ↔ o.held = false)) ∧
  (s.transport.holder = .timer ↔ held) ∧ (s.tuner.holder = .timer ↔ held) ∧
  (∀ r l, s.tuner.holder = .search r l ↔ ∃ x, s.tuner.search = some x ∧ x.rank = r ∧ x.link = l)

/-- R146: while the timer lock is set the mode is ON, the clock is SET and a cassette is in the deck, not on its way out: an
intent EJECT stands only where a link holds the transport, or in EJECTING. -/
def LockLaw (s : State) : Prop :=
  let t := s.transport
  (s.engine.lock = true → s.engine.mode = true ∧ s.clock.set = true ∧ t.state ≠ .empty ∧ t.state ≠ .inserting ∧
    t.state ≠ .ejecting ∧ t.intent ≠ some .eject) ∧
  (t.intent = some .eject → t.state = .ejecting ∨
    t.holder.ofLink = true ∧ (t.state = .inserting ∨ t.state = .threading ∨ t.state = .unthreading))

/-- A consistent state: a safe one whose outputs, mechanism, tuner and units agree with one another, with its power, its
holders and its timer lock. -/
def Consistent (s : State) : Prop :=
  Safe s ∧ OutputsLaw s ∧ MechanismLaw s ∧ TunerLaw s ∧ UnitsLaw s ∧ PowerLaw s ∧ HoldersLaw s ∧ LockLaw s

/-- R147: outside HOLD the due list is the one that the slots, the mode and the clock give, or empty until it is next
rebuilt; and a cold start that waits for mains waits in HOLD with an empty list. -/
def DueLaw (s : State) : Prop :=
  (s.power.state ≠ .hold → s.engine.due = dueListOf s ∨ s.engine.due = []) ∧
  (s.power.coldPending = true → s.power.state = .hold ∧ s.engine.due = [])

/-! ## What else may stand due -/

/-- Nothing stands due at the Timer Engine or the Power Supervisor: no occurrence is current, none is to be judged, and
no switch-off waits. -/
def State.quiet (s : State) : Prop :=
  s.engine.current = none ∧ s.engine.judgeDue = false ∧ s.power.pendingOff = none

/-- The engine keeps no due list (R147: the mode is OFF, or the clock is UNSET). -/
def State.unscheduled (s : State) : Prop := s.engine.mode = false ∨ s.clock.set = false

/-! ## The ports after a step -/

/-- The attention line that R188 asks of a port. -/
def calls (s : State) (m : Link) (p : Port) : Bool := liveIn s.power.state m && p.pending &&& ~~~p.mask != 0

/-- The port of link `m` after a step in which `ks` was raised and, where a whole frame on link `l` was answered, its
reply written and the word sampled at select-fall shifted out (R182, R184, R187, R188). -/
def portAfter (s : State) (answer : Option (Link × ReplyHolder)) (ks : KindSet) (m : Link) : Port :=
  let p := s.port m
  let p := { p with pending := if liveIn s.power.state m then p.pending ||| ks else p.pending }
  let p := { p with attention := calls s m p }
  match answer with
  | some (l, h) => if l = m then { p with reply := h, outgoing := outgoingWord l s } else p
  | none => p

/-- Both ports after a step. -/
def portsAfter (s : State) (answer : Option (Link × ReplyHolder)) (ks : KindSet) : PerLink Port :=
  ⟨portAfter s answer ks .p, portAfter s answer ks .g⟩

/-- The reply of an accepted request with these data (R184). -/
def accepted (data : Arg) : ReplyHolder := ⟨false, data⟩

/-- The reply of a request refused with a code (R184). -/
def refusedWith (code : Nat) : ReplyHolder := ⟨true, BitVec.ofNat 24 code⟩

/-- The ports with kinds raised, before the attention lines are judged (R187). -/
def raisedPorts (s : State) (ks : KindSet) : PerLink Port :=
  ⟨{ s.port .p with pending := if liveIn s.power.state .p then (s.port .p).pending ||| ks else (s.port .p).pending },
    { s.port .g with pending := if liveIn s.power.state .g then (s.port .g).pending ||| ks else (s.port .g).pending }⟩

/-- The kinds that entering a state raises: TRANSPORT where the state changes (R1), GAUGE where a CURRENT estimate comes to
rest (R71). -/
def enterKinds (new : TState) (s : State) : KindSet :=
  (if s.transport.state = new then 0 else 0x00001#18) |||
    (if new.motion = .atRest ∧ s.gauge.estimate = .current then 0x00020#18 else 0)

/-- The state with the transport's holder set to the requester of an accepted request (R5). -/
def heldBy (l : Link) (r : Rank) (s : State) : State :=
  { s with transport := { s.transport with holder := match effectiveRank s l r with
    | .user => .user l
    | .automatic => .auto l } }

/-- The state after an accepted READ with word index 0 (R184, R186): the packed part in the link's read buffer under its code
and argument, its word 0 the reply. -/
def partRead (l : Link) (code : Code) (item : Value) (fs : List Field) (u : State) : State :=
  { u with ports := portsAfter (u.modPort l fun p => { p with readBuffer := some ⟨code, item, packPart fs⟩ })
             (some (l, accepted ((packPart fs).getD 0 0))) 0 }

/-- The state after a request refused BAD_ARG, with nothing else changed. -/
def refusedArgument (l : Link) (s : State) : State :=
  { s with ports := portsAfter s (some (l, refusedWith 2)) 0 }

/-! ## The tables of chapter 1 -/

/-- The direct moves of R9 between STOP and the running states and among these, RECORD apart: state, request, target. -/
def directMoves : List (TState × Ask × TState) :=
  [(.stop, .play, .play), (.stop, .cue, .cue), (.stop, .review, .review), (.stop, .fwind, .fwind),
    (.stop, .rwind, .rwind),
    (.play, .pause, .still), (.play, .cue, .cue), (.play, .review, .review), (.play, .fwind, .fwind),
    (.play, .rwind, .rwind),
    (.still, .play, .play), (.still, .pause, .play), (.still, .cue, .cue), (.still, .review, .review),
    (.still, .fwind, .fwind), (.still, .rwind, .rwind),
    (.record, .pause, .recPause),
    (.cue, .play, .play), (.cue, .fwind, .fwind), (.cue, .rwind, .rwind),
    (.review, .play, .play), (.review, .fwind, .fwind), (.review, .rwind, .rwind),
    (.fwind, .play, .play), (.fwind, .rwind, .rwind),
    (.rwind, .play, .play), (.rwind, .fwind, .fwind)]

/-- The state and request pairs that R9 accepts with no change, STOP apart. -/
def unchangedMoves : List (TState × Ask) :=
  [(.play, .play), (.cue, .cue), (.review, .review), (.fwind, .fwind), (.rwind, .rwind), (.ejecting, .eject)]

/-- The command of a request from a link, RECORD with its argument. -/
def Ask.command (l : Link) (r : Rank) (arg : Arg) : Ask → Instr
  | .play => .play l r arg
  | .record _ => .record l r arg
  | .pause => .pause l r arg
  | .stop => .stop l r arg
  | .cue => .cue l r arg
  | .review => .review l r arg
  | .fwind => .fwind l r arg
  | .rwind => .rwind l r arg
  | .eject => .eject l r arg

/-- The refusal of step 5 of R8, as the acceptance table of R9 gives it: NO_CASSETTE 7, BUSY 5, WRONG_STATE 6. -/
def tableRefusal (t : TState) (a : Ask) : Option Nat :=
  let record : Bool := match a with
    | .record _ => true
    | _ => false
  match t with
  | .empty => if a = .stop then none else some 7
  | .inserting => if a = .pause then some 6 else if a = .stop then some 5 else none
  | .parked | .threading | .unthreading | .stop => if a = .pause then some 6 else none
  | .play | .still => if record then some 6 else none
  | .record => if a = .pause ∨ a = .stop ∨ a = .eject then none else some 6
  | .recPause => if record ∨ a = .pause ∨ a = .stop ∨ a = .eject then none else some 6
  | .cue => if record ∨ a = .pause ∨ a = .review then some 6 else none
  | .review => if record ∨ a = .pause ∨ a = .cue then some 6 else none
  | .fwind | .rwind => if record ∨ a = .pause ∨ a = .cue ∨ a = .review then some 6 else none
  | .ejecting => if a = .eject then none else some 5
  | .fault => none

/-- The target state that steps 6 to 8 of R8 look at: the state a request names, or the one a PAUSE toggles to (R14);
STOP and EJECT have none. -/
def targetOf (t : TState) : Ask → Option TState
  | .play => some .play
  | .record _ => some .record
  | .pause => match t with
    | .play => some .still
    | .still => some .play
    | .record => some .recPause
    | .recPause => some .record
    | _ => none
  | .cue => some .cue
  | .review => some .review
  | .fwind => some .fwind
  | .rwind => some .rwind
  | .stop => none
  | .eject => none

/-- The faults of R30 that block a move to a state, and the sensor of R27 that stands before it. -/
def blockedBy (f : Faults) : TState → Bool
  | .play | .record | .still | .recPause => f.reelStall || f.drumFault
  | .cue | .review => f.reelStall || f.drumFault || f.windOverload
  | .fwind | .rwind => f.reelStall || f.windOverload
  | _ => false

def sensorBefore (p : Pins) : TState → Bool
  | .play | .record | .cue | .fwind => p.tapeEnd
  | .review | .rwind => p.tapeStart
  | _ => false

/-- The holder table of R5 for a transport request other than CLEAR_FAULTS. -/
def holderTurnsAway (h : Holder) (r : Rank) (a : Ask) : Bool :=
  match h with
  | .none => false
  | .user _ => r == .automatic
  | .auto _ => false
  | .timer => r == .automatic || a != .stop

/-- The refusal that R8 gives a transport request of a link other than CLEAR_FAULTS, at its effective rank: the first
check that fails. -/
def transportRefusal (s : State) (r : Rank) (a : Ask) : Option Nat :=
  if s.engine.lock then some 4
  else if s.power.state ≠ .on ∧ r = .automatic then some 15
  else if s.transport.state = .fault then some 9
  else if holderTurnsAway s.transport.holder r a then some 3
  else
    match tableRefusal s.transport.state a with
    | some code => some code
    | none =>
      match targetOf s.transport.state a with
      | none => none
      | some t =>
        if blockedBy s.protection.faults t then some 9
        else if t = TState.record ∧ s.transport.tab = TabStatus.absent then some 8
        else if sensorBefore s.pins t then some 14
        else none

/-- What R21 checks again before an intent is carried out. -/
def heldBack (s : State) (t : TState) : Bool :=
  blockedBy s.protection.faults t || (t == .record && s.transport.tab == .absent) || sensorBefore s.pins t

/-- The position record after a running search ends with an outcome (R52). -/
def endedSearch (o : SearchOutcome) (p : Position) : Position :=
  match p.search with
  | none => p
  | some r =>
    { p with search := none,
             lastEnding := some ⟨if r.index then .index else .counter, o, p.counter, some r.link⟩ }

/-- SEARCH_END is raised where a search was running (R52). -/
def endKinds (s : State) : KindSet := if s.position.search.isSome then 0x00010#18 else 0

/-- The holder released where the transport rests in STOP, PARKED or EMPTY with no intent (R6). -/
def released (t : Transport) : Transport :=
  { t with holder := match t.holder with
    | .user l => if t.intent = none ∧ (t.state = .stop ∨ t.state = .parked ∨ t.state = .empty) then .none else .user l
    | .auto l => if t.intent = none ∧ (t.state = .stop ∨ t.state = .parked ∨ t.state = .empty) then .none else .auto l
    | h => h }

/-- The state after a jam has been latched (R29): FAULT entered, the search ended, FAULT raised. -/
def jammed (f : Faults) (s : State) : State :=
  let u := enter .fault s
  { u with protection := { s.protection with faults := f }
           position := endedSearch .aborted u.position
           ports := portsAfter s none (enterKinds .fault s ||| 0x00002#18 ||| endKinds s) }

/-- The state after a protective fault has been latched (R30): from a running state STOP and at once UNTHREADING with
intent PARKED; the search ended, FAULT raised. -/
def stoppedByFault (f : Faults) (s : State) : State :=
  let u := { s with protection := { s.protection with faults := f } }
  let u := if s.transport.state.running then enter .unthreading (setIntent (some .parked) (enter .stop u)) else u
  let moved := if s.transport.state.running then 0x00001#18 ||| enterKinds .stop s else 0
  { u with position := endedSearch .aborted u.position
           ports := portsAfter s none (moved ||| 0x00002#18 ||| endKinds s) }

/-! ## Searches (chapter 2) -/

/-- The frames per second of *system standard*, and the counter's bound, 36,000·F − 1 (R36). -/
def framesOf : Standard → Nat
  | .f25 => 25
  | .f30 => 30

def boundOf (x : Standard) : Int := 36000 * (framesOf x : Int) - 1

/-- The marks' positions on the list: at most 32, in increasing order, no two within F frames, and these and the counter
within the counter's range (R36, R44). -/
def IndexLaw (s : State) : Prop :=
  s.position.index.length ≤ 32 ∧
  s.position.index.Pairwise (fun a b => a + (framesOf s.settings.standard : Int) < b) ∧
  (∀ e ∈ s.position.index, -boundOf s.settings.standard ≤ e ∧ e ≤ boundOf s.settings.standard) ∧
  -boundOf s.settings.standard ≤ s.position.counter ∧ s.position.counter ≤ boundOf s.settings.standard

/-- The refusal that R47 gives a search request at its effective rank, `forward` its direction where the target is not the
counter; `argument` is whether the argument is in range. -/
def searchRefusal (s : State) (r : Rank) (argument : Bool) (forward : Option Bool) : Option Nat :=
  let t := s.transport.state
  if s.engine.lock then some 4
  else if s.power.state ≠ .on ∧ r = .automatic then some 15
  else if t = .fault then some 9
  else if holderTurnsAway s.transport.holder r .play then some 3
  else if argument = false then some 2
  else if t = .empty then some 7
  else if t = .inserting ∨ t = .threading ∨ t = .unthreading ∨ t = .ejecting then some 5
  else if t = .record ∨ t = .recPause then some 6
  else if s.protection.faults.reelStall || s.protection.faults.windOverload || s.protection.faults.drumFault then some 9
  else if forward = some true ∧ s.pins.tapeEnd = true ∨ forward = some false ∧ s.pins.tapeStart = true then some 14
  else none

/-- A state entered unless the transport stands in it. -/
def movedTo (t : TState) (s : State) : State := if s.transport.state = t then s else enter t s

/-- The state in which a search with target `t` other than the counter begins, or a counting search (R48, R50): its phase
and the move asked for. -/
def searchBegun (x : Search) (s : State) : State :=
  let forward := x.direction == some .forward
  match x.mode with
  | .counting _ =>
    movedTo (if forward then .fwind else .rwind) { s with position := { s.position with search := some { x with phase := .wind } } }
  | .target t =>
    if (t - s.position.counter).natAbs ≤ 10 * framesOf s.settings.standard then
      movedTo (if forward then .cue else .review)
        { s with position := { s.position with search := some { x with phase := .approach } } }
    else
      movedTo (if forward then .fwind else .rwind)
        { s with position := { s.position with search := some { x with phase := .wind } } }

/-- The kinds that a search's beginning raises. -/
def searchKinds (s u : State) : KindSet := if u.transport.state = s.transport.state then 0 else 0x00001#18

/-! ## The store's writer (chapter 9) -/

/-- The copy of an area's working contents that the writer takes (R176). -/
def copyOf (u : State) : Area → AreaCopy
  | .presets => .presets u.presets
  | .events => .events u.slots
  | .settings => .settings u.settings
  | .classes => .classes u.gauge.classes

/-- A state in whose area the working copy has changed: the area becomes dirty, and an IDLE writer outside HOLD takes its
copy at once (R175, R176). -/
def areaChanged (a : Area) (u : State) : State :=
  if u.power.state ≠ .hold ∧ u.store.writer = none then
    { u with store := { u.store with writer := some (copyOf u a) } }
  else { u with store := { u.store with dirty := putFlag a true u.store.dirty } }

/-! ## The schedule (chapters 7 and 8) -/

/-- Nothing comes due in a state (R150): the head of its due list, if it has one, starts beyond its lead. -/
def State.calm (u : State) : Prop := ∀ e ∈ (dueListOf u).head?.toList, u.now + leadOf u e < e.start

/-- No window of the list that the engine holds has stopped by an epoch minute (R148). -/
def State.noneStoppedBy (s : State) (minute : Nat) : Prop := ∀ e ∈ s.engine.due, minute < e.stop

/-- The state in which the engine has taken its due list and the conflict flags from the table and the clock (R141, R142,
R147). -/
def rescheduled (u : State) : State :=
  { u with slots := flagged u, engine := { u.engine with due := dueListOf u } }

/-- EVENT_TABLE where a conflict flag turns on or off (R142). -/
def flagKinds (u : State) : KindSet := if (flagged u).map Slot.conflict = u.slots.map Slot.conflict then 0 else 0x00400#18

/-! ## The tuner and the receiver (chapters 5 and 6) -/

/-- The refusal that steps 1 to 3 of R98 give a tuner request at its effective rank: LOCKED 4, NOT_ON 15, RANK 3. -/
def tunerRefusal (s : State) (r : Rank) (trim : Bool) : Option Nat :=
  let turnedAway : Bool := match s.tuner.holder, r with
    | .viewUser _, .automatic | .search .user _, .automatic | .timer, .automatic => true
    | .timer, .user => !trim
    | _, _ => false
  if s.engine.lock then some 4 else if s.power.state ≠ .on then some 15 else if turnedAway then some 3 else none

/-- The holder VIEW of a requester (R98). -/
def viewHolder (l : Link) : Rank → TunerHolder
  | .user => .viewUser l
  | .automatic => .viewAuto l

/-- The receiver that a tuning change leaves, live or idle after it (R115, R116, R120, R126). -/
def receiverCut (live : Bool) (r : Receiver) : Receiver :=
  let begun := r.state == .collectLength || r.state == .collect
  { state := .seekIdle, live := live, quietTimer := live, gapTimer := false,
    collecting := if begun then none else r.collecting
    lastReason := if begun then .aborted else r.lastReason
    labels := [], lastQueued := none, readOut := ⟨none, none⟩ }

/-- The receiver that a change of the conditions of R115 leaves. -/
def receiverTold (live : Bool) (r : Receiver) : Receiver :=
  let begun := r.state == .collectLength || r.state == .collect
  if r.live = live then r
  else if live then { r with live := true, state := .seekIdle, quietTimer := true }
  else
    { r with live := false, state := .seekIdle, quietTimer := false, gapTimer := false,
             collecting := if begun then none else r.collecting
             lastReason := if begun then .aborted else r.lastReason }

/-- A tuning change reported (R89, R95). -/
def tuningReported (live : Bool) (u : State) : State :=
  { u with clock := { u.clock with candidate := none }, receiver := receiverCut live u.receiver }

/-- A tuning write with main power ON (R95): correction 0, the write sent, SETTLING, the change reported. -/
def tunedTo (source : TunerSource) (base : Nat) (fine : Int) (aft : Bool) (u : State) : State :=
  let n := appliedSum base fine 0
  tuningReported false
    { u with
      tuner := { u.tuner with present := true, source := source, base := base, fine := fine, aft := aft,
                              correction := 0, divider := n, band := bandOf n, lock := .settling, retrySpent := false }
      outputs := { u.outputs with tunerWord := some n } }

/-- A correction write with main power ON (R95). -/
def correctedTo (fine : Int) (aft : Bool) (correction : Int) (u : State) : State :=
  let n := appliedSum u.tuner.base fine correction
  { u with
    tuner := { u.tuner with fine := fine, aft := aft, correction := correction, divider := n, band := bandOf n }
    outputs := { u.outputs with tunerWord := some n } }

/-- A preset's record applied with main power ON (R95, R101): a tuning write where the source or the base divider changes,
else a correction write that keeps the correction while AFT stays enabled; a record found EMPTY leaves the source NONE. -/
def presetReapplied (n : Nat) (u : State) : State :=
  let p := u.presets.getD (n - 1) .factory
  let fresh := { u with tuner := { u.tuner with stale := false } }
  if p.stored = false then
    tuningReported (u.tuner.lock == .locked && u.tuner.search.isNone)
      { u with tuner := { u.tuner with source := .none, stale := false } }
  else if u.tuner.present = true ∧ u.tuner.source = .preset n ∧ u.tuner.base = p.divider then
    correctedTo p.fine p.aft (if p.aft then u.tuner.correction else 0) fresh
  else tunedTo (.preset n) p.divider p.fine p.aft fresh

/-- The tuner at the engine's release with main power ON (R89, R101, R102): the holder NONE, the candidate gone, a stale
preset taken from the table again. -/
def tunerFreed (u : State) : State :=
  let v := { u with tuner := { u.tuner with holder := .none }, clock := { u.clock with candidate := none } }
  match u.tuner.stale, u.tuner.source with
  | true, .preset n => presetReapplied n v
  | _, _ => { v with tuner := { v.tuner with stale := false } }

/-- A search step's write with main power ON: a tuning write toward the module (R95, R105). -/
def steppedTo (n : Nat) (x : StationSearch) (u : State) : State :=
  { u with
    tuner := { u.tuner with search := some x, present := true, base := n, fine := 0, correction := 0, lock := .settling,
                            retrySpent := false
                            divider := appliedSum n 0 0, band := bandOf (appliedSum n 0 0) }
    outputs := { u.outputs with tunerWord := some (appliedSum n 0 0) } }

/-- The divider 20 units on in a direction, wrapping at the ends of the range (R105). -/
def twentyOn (down : Bool) (n : Nat) : Nat :=
  if down then (if n < 1678 then 18178 else n - 20) else if 18158 < n then 1658 else n + 20

/-- A preset's record written as a change (R92): the version, PRESETS dirty, the last changed preset. -/
def presetChanged (n : Nat) (p : Preset) (u : State) : State :=
  let old := u.presets.getD (n - 1) .factory
  areaChanged .presets
    { u with presets := u.presets.set (n - 1) { p with version := (old.version + 1) % 256 }
             tuner := { u.tuner with lastChanged := some n } }

/-- Nothing is to be done within the step at the Timer Engine or the Power Supervisor, an occurrence in progress or not. -/
def State.undisturbed (s : State) : Prop := engineAction s = none ∧ s.power.pendingOff = none

/-! ## Slots (chapter 7) -/

/-- The instants of an occurrence of a definition on a day (R129). -/
def startInstant (e : EventDef) (day : Nat) : Nat := day * 1440 + e.start

def stopInstant (e : EventDef) (day : Nat) : Nat :=
  if e.start < e.stop then day * 1440 + e.stop else (day + 1) * 1440 + e.stop

/-- Whether a day is a candidate date of a definition whose occurrence exists (R129, R130). -/
def holdsOccurrence (e : EventDef) (day : Nat) : Bool :=
  let candidate := match e.rep, e.date with
    | .once, .calendar d => d.valid && dayNumber d == day
    | .daily, _ => true
    | .weekdays, _ => decide (day % 7 ≤ 4)
    | .weekly, .weekday n => day % 7 == n
    | _, _ => false
  candidate && decide (day < 36525) && decide (stopInstant e day ≤ 52595999)

/-- The refusal of steps 3 to 5 of R135 for a definition as it would be written, its slot not current: BAD_ARG 2, NO_PRESET
16, PAST 17. -/
def definitionRefusal (s : State) (e : EventDef) (served : Option Nat) : Option Nat :=
  let complete : Bool := match e.rep, e.date with
    | .once, .calendar d => d.valid && holdsOccurrence e (dayNumber d)
    | .once, _ => false
    | .weekly, .weekday _ => true
    | .weekly, _ => false
    | _, _ => true
  let ahead : Bool := match e.date with
    | .calendar d => served.all (fun x => decide (x < dayNumber d)) && decide (s.now < stopInstant e (dayNumber d))
    | _ => false
  if e.start = e.stop ∨ complete = false then some 2
  else if (s.presets.getD (e.preset - 1) .factory).stored = false then some 16
  else if e.enabled = true ∧ e.rep = .once ∧ ahead = false then some 17
  else none

/-- The slot written, changed from what it was (R128): the version, EVENTS dirty, the due list and the flags taken again. -/
def slotChanged (n : Nat) (x : Slot) (u : State) : State :=
  let old := u.slots.getD n .factory
  areaChanged .events (rescheduled
    { u with slots := u.slots.set n { x with version := (old.version + 1) % 256, conflict := old.conflict } })

/-- A slot judged (R139): the outcome, the date served no earlier than it was, and a ONCE slot no longer enabled. -/
def judgedSlot (r : OutcomeRecord) (x : Slot) : Slot :=
  { x with
    outcome := some r
    lastServed := some (match x.lastServed with
      | none => r.day
      | some d => max d r.day)
    defn := { x.defn with enabled := x.defn.enabled && x.defn.rep != .once } }

/-- A state whose current occurrence, of slot `n`, has been judged and is gone. -/
def withoutCurrent (n : Nat) (r : OutcomeRecord) (u : State) : State :=
  { u with slots := u.slots.set n (judgedSlot r (u.slots.getD n .factory)), engine := { u.engine with current := none } }

/-- Minutes recorded (R149), the recorded time in units of 1/600 s (log entry 13). -/
def minutesOf (units : Nat) : Nat := min (units / 36000) 1439

/-- A definition as a store writes it: no date for DAILY and WEEKDAYS (R135). -/
def asStored (e : EventDef) : EventDef :=
  { e with date := if e.rep = .daily ∨ e.rep = .weekdays then .absent else e.date }

/-- The work record after an accepted store into slot `n`, which then reads `x` (R136, R137). -/
def refreshed (n : Nat) (x : Slot) (w : EventWork) : EventWork :=
  { w with origin := .fetched, slot := some n, version := x.version, fetchedInUse := true, shownOwner := x.owner,
           shownLastServed := x.lastServed, shownOutcome := x.outcome, shownConflict := x.conflict }

/-- The note of an accepted ACTION: CONFLICT in bit 0 and the value's presence in bit 1 of byte 1, the value below (R184). -/
def noteOf (conflict : Bool) (value : Option Nat) : Arg :=
  BitVec.ofNat 8 ((if conflict then 1 else 0) + if value.isSome then 2 else 0) ++ BitVec.ofNat 16 (value.getD 0)

/-! ## Main power (chapter 9) -/

/-- Main power leaves ON with no station search running (R103, R115, R126, R171): relay off, tuner unpowered and released,
receiver idle and emptied, Link G's set emptied. -/
def leftOn (cause : PowerCause) (u : State) : State :=
  let t := u.tuner
  let n := appliedSum t.base t.fine 0
  let releases := t.holder != .timer && t.holder != .none
  { u with
    power := { u.power with state := .standby, raised := false, pendingOff := none,
                            lastChange := some ⟨u.power.state, .standby, cause⟩ }
    outputs := { u.outputs with relay := false, tunerWord := none }
    tuner := { t with holder := if t.holder = .timer then .timer else .none, lock := .off, correction := 0,
                      divider := n, band := bandOf n, retrySpent := false }
    clock := { u.clock with candidate := if releases then none else u.clock.candidate }
    receiver := { receiverTold false u.receiver with labels := [], lastQueued := none, readOut := ⟨none, none⟩ }
    ports := { u.ports with g := { u.ports.g with pending := 0, frame := none, outgoing := 0 } } }

/-- The kinds that leaving ON raises: POWER, and TUNER where the tuner's holder goes or its lock state leaves LOST (R113). -/
def leftKinds (u : State) : KindSet :=
  if (u.tuner.holder = .timer ∨ u.tuner.holder = .none) ∧ u.tuner.lock ≠ .lost then 0x04000#18 else 0x04080#18

/-- The tuning that main power going ON writes (R103): the standing one, without its preset where that is EMPTY, else the
lowest STORED preset whose skip flag is off; with the stale flag that it leaves. -/
def startingTuning (u : State) : Option (Tuning × Bool) :=
  let t := u.tuner
  if t.present then
    match t.source with
    | .preset n =>
      if (u.presets.getD (n - 1) .factory).stored then some (⟨t.source, t.base, t.fine, t.aft⟩, t.stale)
      else some (⟨.none, t.base, t.fine, t.aft⟩, false)
    | _ => some (⟨t.source, t.base, t.fine, t.aft⟩, t.stale)
  else
    (u.presets.findIdx? fun p => p.stored && !p.skip).map fun i =>
      let p := u.presets.getD i .factory
      (⟨.preset (i + 1), p.divider, p.fine, p.aft⟩, false)

/-- A port's initial state, with the blank definition of the moment (R132, R133, R180). -/
def freshPort (u : State) : Port :=
  { reply := ⟨false, 0⟩, pending := 0, mask := 0, attention := false, readBuffer := none, frame := none, outgoing := 0,
    eventWork :=
      { origin := .none, slot := none, version := 0, fetchedInUse := false,
        defn := { enabled := true, rep := .once, date := .calendar u.clock.now.date, start := 0, stop := 60,
                  preset := u.tuner.source.preset?.getD 1, speed := .auto, label := .off },
        shownOwner := none, shownLastServed := none, shownOutcome := none, shownConflict := false }
    presetWork := ⟨false, none, 0, .factory⟩ }

/-- Main power goes ON from STANDBY (R103, R115, R167, R172, R180): relay on, the tuner written, Link G reset. -/
def poweredOn (cause : PowerCause) (u : State) : State :=
  let a := { u with power := { u.power with state := .on, lastChange := some ⟨.standby, .on, cause⟩ }
                    outputs := { u.outputs with relay := true } }
  let b := match startingTuning u with
    | some (x, stale) => tunedTo x.source x.base x.fine x.aft { a with tuner := { a.tuner with stale := stale } }
    | none => { a with receiver := receiverTold (u.tuner.lock == LockState.locked && u.tuner.search.isNone) a.receiver }
  { b with clock := { b.clock with staged := b.clock.staged.put .g none, snapshot := b.clock.snapshot.put .g none }
           receiver := { b.receiver with readOut := b.receiver.readOut.put .g none }
           ports := { b.ports with g := freshPort b } }

/-- The ports after a step in which main power has gone ON at a frame of Link P or at an event: what a tuning raises, Link G
fresh. -/
def portsPowered (v : State) (answer : Option (Link × ReplyHolder)) (tuned : Bool) (ks : KindSet) : PerLink Port :=
  ⟨portAfter v answer (0x04000#18 ||| ks ||| if tuned then 0x00080#18 else 0) .p, portAfter v none (0x04000#18 ||| ks) .g⟩

/-- A state in which a running search has ended ABORTED (R52), with SEARCH_END raised. -/
def searchDropped (u : State) : State :=
  { u with position := endedSearch .aborted u.position, ports := raisedPorts u (endKinds u) }

/-- What the acceptance of a transport or search request brings before it acts (R8, R47, R171, R172): main power ON from
STANDBY, a switch-off of cause USER_OFF withdrawn, a running search ended ABORTED. -/
def readied (u : State) : State :=
  let tuned : KindSet := if (startingTuning u).isSome then 0x00080#18 else 0
  let v := poweredOn .transportRequest u
  let v := if u.power.state = .standby then
      { v with ports := ⟨{ u.port .p with pending := (u.port .p).pending ||| 0x04000#18 ||| tuned },
                         { v.port .g with pending := 0x04000#18 }⟩ }
    else u
  searchDropped { v with power := { v.power with pendingOff := v.power.pendingOff.filter fun off => match off with
    | .userOff _ => false
    | _ => true } }

/-- A state in which a running station search has ended ABORTED at its step divider (R107): the ending, STATION_SEARCH_END
and TUNER raised, a tuning change reported. -/
def stationDropped (u : State) : State :=
  match u.tuner.search with
  | none => u
  | some x =>
    tuningReported (u.power.state == .on && u.tuner.lock == .locked)
      { u with
        tuner := { u.tuner with
          search := none
          lastEnding := some ⟨x.storing, .aborted, if x.storing then x.stored else 0, x.divider⟩ }
        ports := raisedPorts u 0x00180#18 }

/-- The tape sent to rest in PARKED from STOP or a running state (R4, R7). -/
def sentToPark (u : State) : State := enter .unthreading (setIntent (some .parked) (movedTo .stop u))

/-- The kinds that sending the tape to rest raises. -/
def parkKinds (u : State) : KindSet :=
  0x00001#18 ||| if u.transport.state = .stop then enterKinds .unthreading u else enterKinds .stop u

/-- The state as a timebase count that brings a new second leaves the clock. -/
def secondOn (k : Nat) (u : State) : State :=
  { u with clock := { u.clock with subSecond := u.clock.subSecond + k - 600, elapsed := u.clock.elapsed + k
                                   now := nextSecond u.clock.now } }

/-! ## The occurrence in progress (chapter 8) -/

/-- An occurrence in its ending (R159). -/
def inEnding (o : Occurrence) : Occurrence :=
  { o with phase := .ending, silence := false, startDue := false, resumeDue := false }

/-- The outcome of an ending with a PARTIAL reason (R149, R159): a speed never chosen is the slot's fixed one, or
*auto fallback speed*. -/
def partialOutcome (u : State) (o : Occurrence) (why : PartialReason) : OutcomeRecord :=
  let e := (u.slots.getD o.slot .factory).defn
  let presumed := match e.speed with
    | .sp => Speed.sp
    | .lp => .lp
    | .ep => .ep
    | .auto => u.settings.fallbackSpeed
  ⟨.partly why, o.day, some (o.speed.getD presumed), minutesOf o.recorded⟩

/-- The outcome of a MISSED occurrence (R159). -/
def missedOutcome (o : Occurrence) (why : MissedReason) : OutcomeRecord :=
  ⟨.missed why, o.day, none, minutesOf o.recorded⟩

/-- An occurrence whose recording begins at a clock time (R152, R154): a start by the clock past the scheduled minute notes
LATE_START. -/
def begins (o : Occurrence) (v : Speed) (x : DateTime) : Occurrence :=
  { o with
    phase := .recording, speed := some v, startDue := false, handover := false, startSent := true, actualStart := some x
    noted := if o.noted = none ∧ o.label ≠ .matched ∧ o.start < epochMinute x then some .lateStart else o.noted }

/-- An occurrence in its ending with the tape on its way to PARKED under the timer's hold, its outcome written and TIMER_END
(bit 12) raised (R159). -/
def EndsWith (o : Occurrence) (r : OutcomeRecord) (t : State) : Prop :=
  t.engine.current = some (inEnding o) ∧ (t.slots.getD o.slot .factory).outcome = some r ∧
  (t.port .p).pending.getLsbD 12 = true ∧ t.transport.state = .unthreading ∧ t.transport.intent = some .parked ∧
  t.transport.holder = .timer

/-- Main power is ON with an occurrence of a slot in use in progress, and nothing stands due. -/
def State.serving (s : State) (o : Occurrence) (x : Slot) : Prop :=
  s.power.state = .on ∧ s.undisturbed ∧ WriterLaw s ∧ s.engine.current = some o ∧ o.orphan = false ∧
  s.slots[o.slot]? = some x ∧ x.inUse = true ∧ s.position.search = none

/-- What a mains cycle counts, in units of 1/600 s (R75). -/
def cycleOf (s : State) : Nat := if s.settings.mains60 then 10 else 12

/-- A state whose next mains cycle brings a new minute that leaves no due window behind (R78, R148). -/
def State.minuteComes (s : State) : Prop :=
  let next := secondOn (cycleOf s) s
  s.clock.source = .mains ∧ 600 ≤ s.clock.subSecond + cycleOf s ∧ s.clock.now ≠ lastInstant ∧
  next.clock.now.time.second = 0 ∧ s.noneStoppedBy next.now

/-- No entry of the list that the engine holds has started by an epoch minute (R158). -/
def State.noneStartedBy (s : State) (minute : Nat) : Prop := ∀ e ∈ s.engine.due.head?.toList, minute < e.start

/-! ## Windows that have passed (R148) -/

/-- The last day up to `n` that passes a test. -/
def lastThat (ok : Nat → Bool) : (n : Nat) → Option Nat
  | 0 => if ok 0 then some 0 else none
  | n + 1 => if ok (n + 1) then some (n + 1) else lastThat ok n

/-- The date of a slot's latest occurrence that has stopped by an epoch minute and is later than its last served date
(R148). -/
def latestMissed (x : Slot) (minute : Nat) : Option Nat :=
  lastThat
    (fun day => holdsOccurrence x.defn day && x.lastServed.all (fun d => decide (d < day)) &&
      decide (stopInstant x.defn day ≤ minute))
    (minute / 1440)

/-- The table after the engine has judged, at an epoch minute, the windows of its list that have stopped: one outcome
MISSED for each slot, for that occurrence, with no speed and no minutes (R139, R148). -/
def missedSlots (why : MissedReason) (minute : Nat) (u : State) : List Slot :=
  u.slots.mapIdx fun i x =>
    if x.inUse && u.engine.due.any (fun e => e.slot == i && decide (e.stop ≤ minute)) then
      match latestMissed x minute with
      | some day => { judgedSlot ⟨.missed why, day, none, 0⟩ x with version := (x.version + 1) % 256 }
      | none => x
    else x

/-- A state in which those windows have been judged, the schedule not yet taken again. -/
def judgedPassed (why : MissedReason) (u : State) : State := { u with slots := missedSlots why u.now u }

/-- A window of the engine's list that has stopped by an epoch minute of the clock is one of a slot in use; as the list is
taken from the slots (R147), every one is. -/
def State.passedInUse (s : State) (minute : Nat) : Prop :=
  ∀ e ∈ s.engine.due, e.stop ≤ minute → (s.slots.getD e.slot .factory).inUse = true ∧ minute ≤ 52595999

/-- TIMER_END and EVENT_TABLE where a slot was judged (R128, R148). -/
def missedKinds (why : MissedReason) (u : State) : KindSet :=
  if missedSlots why u.now u = u.slots then 0 else 0x01400#18

/-- The table after judging: the conflict flags taken again where a slot was written (R128, R142). -/
def missedTable (why : MissedReason) (u : State) : List Slot :=
  if missedSlots why u.now u = u.slots then u.slots else flagged (judgedPassed why u)

/-- The state after a clock step to `u` that moves the clock forward: the windows it passed judged, the schedule taken again
(R148, R164). -/
def stepTaken (u : State) : State :=
  let v := rescheduled (judgedPassed .clockStep u)
  if missedSlots .clockStep u.now u = u.slots then v else areaChanged .events v

/-! ## Frames of a statement -/

/-- The records of the state, the ports together. -/
inductive Block where
  | transport | protection | outputs | pins | position | reels | gauge | clock | tuner | presets | receiver | slots
  | engine | power | settings | store | nv | ports | pending | draws
  deriving DecidableEq, Repr

/-- Two states hold the same record. -/
def Block.same (s t : State) : Block → Prop
  | .transport => t.transport = s.transport
  | .protection => t.protection = s.protection
  | .outputs => t.outputs = s.outputs
  | .pins => t.pins = s.pins
  | .position => t.position = s.position
  | .reels => t.reels = s.reels
  | .gauge => t.gauge = s.gauge
  | .clock => t.clock = s.clock
  | .tuner => t.tuner = s.tuner
  | .presets => t.presets = s.presets
  | .receiver => t.receiver = s.receiver
  | .slots => t.slots = s.slots
  | .engine => t.engine = s.engine
  | .power => t.power = s.power
  | .settings => t.settings = s.settings
  | .store => t.store = s.store
  | .nv => t.nv = s.nv
  | .ports => t.ports = s.ports
  | .pending => t.pending = s.pending
  | .draws => t.draws = s.draws

/-- Every record outside the list is as it was. -/
def Untouched (changed : List Block) (s t : State) : Prop := ∀ b : Block, b ∉ changed → b.same s t

end Sys2Proof.Machine
end

