-- ==== Sys2Proof/Certificates/Slice0/Obligations.lean ====
section
/-!
DEFINITION. The statements for the provers.
-/

open Sys2Proof Sys2Proof.Machine

/-! ## Laws of every step -/

/-- The part right after a cold start with mains present, no cassette and a store holding the factory contents, with the
values that the chapters give: EMPTY, no fault, the wind load and the counter 0, the clock UNSET at 1990-01-01 00:00:00, the
tuner unlocked with nothing applied, the factory tables, STANDBY, nothing pending. A cold start arrives there from any state
with that store and no write in flight. That the run begins with that store and those lines is the model's choice (log entries 5 and 6).
Every law of a consistent state, and the law of the due list, holds at reset. -/
def Obligations.ResetIsAColdStart : Prop :=
  (let s := State.reset
   s.transport.state = .empty ∧ s.transport.intent = none ∧ s.transport.holder = .none ∧ s.transport.tab = .unknown ∧
   s.transport.speed = .sp ∧ s.protection = ⟨⟨false, false, false, false, false, false⟩, 0⟩ ∧ s.position.counter = 0 ∧
   s.position.index = [] ∧ s.position.search = none ∧ s.gauge.classes = [60, 90, 120, 150, 180, 210, 240, 300] ∧
   s.clock.now = ⟨⟨1990, 1, 1⟩, ⟨0, 0, 0⟩⟩ ∧ s.clock.set = false ∧ s.tuner.lock = .off ∧ s.tuner.present = false ∧
   s.presets.length = 60 ∧ (∀ p ∈ s.presets, p.stored = false ∧ p.version = 0) ∧
   s.slots.length = 32 ∧ (∀ x ∈ s.slots, x.inUse = false ∧ x.version = 0) ∧
   s.engine.mode = true ∧ s.engine.lock = false ∧ s.engine.due = [] ∧ s.engine.current = none ∧
   s.power.state = .standby ∧ s.power.raised = false ∧
   s.settings = ⟨.f25, false, .mains, 4, 1024, true, true, true, true, 2, 10, 60, .lp, .sp, true, true⟩ ∧
   (∀ l : Link, (s.port l).reply = ⟨false, 0⟩ ∧ (s.port l).pending = 0 ∧ (s.port l).mask = 0 ∧
     (s.port l).attention = false ∧ (s.port l).readBuffer = none) ∧
   (∀ u : State, u.nv = s.nv → u.store.writer = none → u.pending = [] → u.draws = 0 →
     ∃ t, exec (.coldStart true ⟨false, false, false, false, false⟩ ⟨false, false, false, false⟩) u = .next t ∧
       { t with pins := s.pins } = s)) ∧
  (Consistent State.reset ∧ DueLaw State.reset)

/-- No step breaks the laws of attention, writer, wind load and timers.
Readings of the model's own: log entry 3. -/
def Obligations.SafeKept : Prop :=
  ∀ s t : State, Safe s → step s = .next t → Safe t

/-- No step leaves outputs, mechanism, tuner and units disagreeing (R2, R29, R37, R60, R75, R95, R103, R115, R144, R167), or
breaks the laws of main power (R171, R172, R174, R181), of the two holders (R7, R102, R104) and of the timer lock (R146): both
holders are TIMER exactly while an occurrence has made its takes, and under the lock the clock is SET and a cassette is in
the deck. In EMPTY and INSERTING the counter is 0 and the index list empty (R39).
Readings of the model's own: log entries 7, 11 and 16. -/
def Obligations.ConsistentKept : Prop :=
  ∀ s t : State, Consistent s → step s = .next t → Consistent t

/-! ## The step and the control links (chapter 10) -/

/-- A step takes the command at the front of the queue and runs it with the queue's rest. That an empty queue leaves the
state as it is is the model's choice (log entry 2). -/
def Obligations.StepRunsFront : Prop :=
  (∀ (c : Instr) (rest : List Instr) (s : State),
    step { s with pending := c :: rest } = exec c { s with pending := rest }) ∧
  ∀ s : State, s.pending = [] → step s = .next s

/-- Request words written out from the frame layout and the request table decode to their commands. -/
def Obligations.KnownRequestWords : Prop :=
  decodeRequest .p 0x81000000#32 = .play .p .user 0 ∧
  decodeRequest .g 0xA2000003#32 = .record .g .automatic 3 ∧
  decodeRequest .p 0x0510000B#32 = .readNextWord .p .user 5 1 11 ∧
  decodeRequest .p 0x05000000#32 = .readTime .p .user ∧
  decodeRequest .g 0x25000001#32 = .readDate .g .automatic ∧
  decodeRequest .p 0x0C000010#32 = .readSettings .p .user 16 ∧
  decodeRequest .p 0x4190FFFF#32 = .capture .p .user 0x0FFFF ∧
  decodeRequest .p 0x43E00001#32 = .writeSetting .p .user 14 1 ∧
  decodeRequest .g 0x8D7FFFFF#32 = .searchCounter .g .user 0x7FFFFF ∧
  decodeRequest .p 0x9E000000#32 = .powerOff .p .user ∧
  decodeRequest .p 0x9E000001#32 = .powerOn .p .user 1 ∧
  decodeRequest .g 0xC003FFFF#32 = .take .g .user 0x03FFFF ∧
  decodeRequest .p 0x0E000000#32 = .badRequest .p 0x0E000000#32 ∧
  decodeRequest .p 0x44000000#32 = .badRequest .p 0x44000000#32 ∧
  decodeRequest .g 0xC1000000#32 = .badRequest .g 0xC1000000#32

/-- Decoding the request word of a well-formed command gives the command back.
Every word of a whole frame is one request: a well-formed command whose word it is. -/
def Obligations.RequestWordsRoundTrip : Prop :=
  (∀ (c : Instr) (l : Link) (w : Frame), c.wf = true → encodeRequest c = some (l, w) → decodeRequest l w = c) ∧
  (∀ (l : Link) (w : Frame), (decodeRequest l w).wf = true ∧ encodeRequest (decodeRequest l w) = some (l, w))

/-- A frame on a link that is not live changes nothing, whatever it carries.
In HOLD the mechanism inputs act on nothing but the readings of their lines.
Readings of the model's own: log entry 29. -/
def Obligations.SilentWhileNotLiveOrHeld : Prop :=
  (∀ (c : Instr) (l : Link) (w : Frame) (n : Nat) (s : State), liveIn s.power.state l = false →
     (encodeRequest c = some (l, w) ∨ c = .frameDiscarded l n) → exec c s = .next s) ∧
  (∀ (b : Bool) (reel : Reel) (n : Nat) (s : State), s.power.state = .hold → AttentionLaw s →
     exec (.parkedSwitchCloses b) s = .next s ∧
     exec .threadedSwitchCloses s = .next s ∧
     exec .windLoadTick s = .next s ∧
     exec (.controlTrackPulse b) s = .next s ∧
     exec .trackStatusTimeout s = .next s ∧
     exec (.reelPulse reel n) s = .next s ∧
     exec .cassetteSwitchCloses s = .next { s with pins := { s.pins with cassetteClosed := true } } ∧
     exec .cassetteSwitchOpens s = .next { s with pins := { s.pins with cassetteClosed := false } } ∧
     exec (.tapeEndSensorActive b) s = .next { s with pins := { s.pins with tapeEnd := b } } ∧
     exec (.tapeStartSensorActive b) s = .next { s with pins := { s.pins with tapeStart := b } })

/-- The word shifted out in a frame: attention, refused, latched fault, current occurrence, state code, reply data.
A request acts at the rank it asks for, but on Link G while *guide relays keys* is off at automatic rank, whatever its
rank bit says.
A frame with a clock-edge count other than 32 shifts the waiting word out, keeps the reply holder, and raises
LINK_ERROR (bit 16) on its own link alone; a word that names nothing is refused BAD_REQUEST (1); NOP replies 0.
Readings of the model's own: log entry 1. -/
def Obligations.FramesAnswered : Prop :=
  (∀ (l : Link) (s : State),
     (outgoingWord l s).getLsbD 31 = (s.port l).attention ∧
     (outgoingWord l s).getLsbD 30 = (s.port l).reply.refused ∧
     (outgoingWord l s).getLsbD 29 = s.protection.faults.any ∧
     (outgoingWord l s).getLsbD 28 = s.engine.current.isSome ∧
     ((outgoingWord l s).extractLsb' 24 4).toNat = s.transport.state.code ∧
     (outgoingWord l s).extractLsb' 0 24 = (s.port l).reply.data) ∧
  (∀ (l : Link) (r : Rank) (w : Frame) (s : State),
     effectiveRank s l r = (if l = .g ∧ s.settings.guideRelays = false then .automatic else r) ∧
     (s.settings.guideRelays = false →
       exec (decodeRequest .g w) s = exec (decodeRequest .g (w ||| 0x20000000#32)) s)) ∧
  (∀ (l : Link) (s : State), liveIn s.power.state l = true → WriterLaw s →
     (∀ edges : Nat, edges ≠ 32 → exec (.frameDiscarded l edges) s = .next { s with
       ports := (portsAfter s none 0).put l { portAfter s none 0x10000#18 l with outgoing := outgoingWord l s } }) ∧
     (∀ w : Frame, namesNothing w = true → exec (.badRequest l w) s = .next { s with
       ports := portsAfter s (some (l, refusedWith 1)) 0 }) ∧
     (∀ (r : Rank) (a : Arg), exec (.nop l r a) s = .next { s with
       ports := portsAfter s (some (l, accepted 0)) 0 }))

/-- A WRITE of the mask with selector 0 and a value below 2^18 replaces the mask and echoes the value; any other is
refused BAD_ARG (2).
TAKE with a selection below 2^18 removes the pending kinds it selects and replies with them; any other is refused
BAD_ARG (2).
A word after word 0 comes from the read buffer: word n of the part buffered under the same code and argument, BAD_ARG
(2) where the part is shorter, WRONG_STATE (6) where the buffer holds another item or is absent. Transport detail, faults,
counter and link status are listed with no argument (R186): that their later words compare the item argument too, and are
refused WRONG_STATE under another one, is the model's choice (log entry 51).
Readings of the model's own: log entries 1 and 51. -/
def Obligations.PortRequestsAct : Prop :=
  (∀ (l : Link) (r : Rank) (sel : Selector) (v : Value) (s : State), liveIn s.power.state l = true → WriterLaw s →
     exec (.writeMask l r sel v) s = .next { s with
       ports :=
         if sel = 0 ∧ v.toNat < 262144 then
           portsAfter (s.modPort l fun p => { p with mask := v.extractLsb' 0 18 }) (some (l, accepted (sel ++ v))) 0
         else portsAfter s (some (l, refusedWith 2)) 0 }) ∧
  (∀ (l : Link) (r : Rank) (sel : Arg) (s : State), liveIn s.power.state l = true → WriterLaw s →
     exec (.take l r sel) s = .next { s with
       ports :=
         if sel.toNat < 262144 then
           portsAfter (s.modPort l fun p => { p with pending := p.pending &&& ~~~(sel.extractLsb' 0 18) })
             (some (l, accepted (sel &&& ((s.port l).pending.zeroExtend 24)))) 0
         else portsAfter s (some (l, refusedWith 2)) 0 }) ∧
  (∀ (l : Link) (r : Rank) (code : Code) (index : Selector) (item : Value) (s : State),
     liveIn s.power.state l = true → WriterLaw s → index ≠ 0 →
     (∀ (words : List Arg) (w : Arg), (s.port l).readBuffer = some ⟨code, item, words⟩ → words[index.toNat]? = some w →
       exec (.readNextWord l r code index item) s = .next { s with ports := portsAfter s (some (l, accepted w)) 0 }) ∧
     (∀ words : List Arg, (s.port l).readBuffer = some ⟨code, item, words⟩ → words.length < index.toNat + 1 →
       exec (.readNextWord l r code index item) s = .next { s with
         ports := portsAfter s (some (l, refusedWith 2)) 0 }) ∧
     ((∀ words : List Arg, (s.port l).readBuffer ≠ some ⟨code, item, words⟩) →
       exec (.readNextWord l r code index item) s = .next { s with
         ports := portsAfter s (some (l, refusedWith 6)) 0 }))

/-- RESET_LINK leaves its own link's port in the initial state of R180, its work records initial too, with the link's
staged date, snapshot and read-out absent; every other record stands. The word shifted out in its own frame is the one
sampled at select-fall.
Readings of the model's own: log entries 7 and 28. -/
def Obligations.ResetLinkReturnsPort : Prop :=
  ∀ (l : Link) (r : Rank) (a : Arg) (s : State), liveIn s.power.state l = true → WriterLaw s → AttentionLaw s →
    exec (.resetLink l r a) s = .next { s with
      clock := { s.clock with staged := s.clock.staged.put l none, snapshot := s.clock.snapshot.put l none }
      receiver := { s.receiver with readOut := s.receiver.readOut.put l none }
      ports := s.ports.put l
        { reply := ⟨false, 0⟩, pending := 0, mask := 0, attention := false, readBuffer := none, frame := none,
          outgoing := outgoingWord l s,
          eventWork :=
            { origin := .none, slot := none, version := 0, fetchedInUse := false,
              defn := { enabled := true, rep := .once, date := .calendar s.clock.now.date, start := 0, stop := 60,
                        preset := match s.tuner.source with
                          | .preset n => n
                          | _ => 1
                        speed := .auto, label := .off },
              shownOwner := none, shownLastServed := none, shownOutcome := none, shownConflict := false },
          presetWork := ⟨false, none, 0, ⟨false, 1658, 0, true, false, [], none, false, 0⟩⟩ } }

/-- The bits of a packed part, from the most significant bit of word 0 onward, are its fields' bits in order, each field's
most significant bit first, and then zeros; there are as few words as hold them. -/
def Obligations.PartsArePacked : Prop :=
  ∀ fs : List Field,
    let bits := fs.flatMap fun q => (List.range q.width).map fun i => q.bits.testBit (q.width - 1 - i)
    (packPart fs).length = (bits.length + 23) / 24 ∧
    ∀ (k : Nat) (w : Arg), (packPart fs)[k]? = some w →
      ∀ i : Nat, i < 24 → w.getLsbD (23 - i) = bits.getD (24 * k + i) false

/-- A READ with word index 0 of transport detail, faults, counter, an index list entry or a gauge part buffers the part
packed and replies with its word 0; an argument that names no part is refused BAD_ARG (2). Code orders and flags are the
model's (log entry 9). -/
def Obligations.TapeItemsRead : Prop :=
  ∀ (l : Link) (r : Rank) (item : Value) (s : State), liveIn s.power.state l = true → WriterLaw s →
    let t := s.transport
    let f := s.protection.faults
    let p := s.position
    let g := s.gauge
    let seconds := p.counter.natAbs / framesOf s.settings.standard
    let linkNo := fun (x : Option Link) => match x with
      | some .p => 0
      | some .g => 1
      | none => 2
    let classFields := fun (n : Nat) => [num 3 n, num 9 (g.classes.getD n 0)]
    let period := fun (ring : List Nat) =>
      [num 16 (min (ring.foldl (· + ·) 0) 65535), flag (decide (ring.length = 6))]
    let holder := match t.holder with
      | .none => (0, none)
      | .timer => (1, none)
      | .user m => (2, some m)
      | .auto m => (3, some m)
    let part : Option (List Field) := match item.toNat with
      | 0 => some ([num 2 g.estimate.code] ++ opt g.fraction 0 fun x => [num 14 x])
      | 1 => some (opt g.remainingSp 0 fun x => [num 15 x])
      | 2 => some (opt (g.remainingSp.map fun x => x * t.speed.factor) 0 (fun x => [num 17 x]) ++ [num 2 t.speed.code])
      | 3 => some (opt g.active 0 classFields ++ [num 2 g.entries])
      | 4 => some (period s.reels.supplyRing)
      | 5 => some (period s.reels.takeUpRing)
      | 6 => some ((match s.reels.burst with
          | .none => [num 2 0, num 4 0, flag false]
          | .bursting n on => [num 2 1, num 4 n, flag on]
          | .full => [num 2 2, num 4 0, flag false]) ++
        [num 2 (match s.reels.supervised with
          | some .supply => 0
          | some .takeUp => 1
          | none => 2), flag s.reels.stallTimer.isSome])
      | n => if 8 ≤ n ∧ n ≤ 15 then some (classFields (n - 8)) else none
    exec (.readTransportDetail l r item) s = .next (partRead l 0 item
      ([num 4 t.state.code, num 4 (intentCode t.intent), num 2 holder.1, num 2 (linkNo holder.2), num 2 t.tab.code,
        num 2 t.speed.code, num 2 t.recordSpeed.code] ++
        opt t.oneTouch 0 (fun n => [num 8 ((n + 35999) / 36000)]) ++ [flag s.pins.tapeStart, flag s.pins.tapeEnd]) s) ∧
    exec (.readFaults l r item) s = .next (partRead l 1 item
      [flag f.threadJam, flag f.unthreadJam, flag f.ejectJam, flag f.reelStall, flag f.windOverload, flag f.drumFault,
        num 14 s.protection.windLoad] s) ∧
    exec (.readCounter l r item) s = .next (partRead l 2 item
      ([sig 22 p.counter, flag (decide (p.counter < 0)), num 4 (seconds / 3600), num 6 (seconds % 3600 / 60),
        num 6 (seconds % 60), flag (!p.trackPresent), flag p.memoryStop, num 6 p.index.length] ++
        opt p.search ⟨false, 0, .target 0, none, .thread, false, .user, .p⟩ (fun x =>
          [flag x.index, num 2 x.phase.code] ++
          (match x.mode with
            | .target n => flag true :: sig 22 n :: opt none 0 (fun k => [num 5 k])
            | .counting n => opt none 0 (fun k => [sig 22 k]) ++ [flag true, num 5 n]) ++
          [flag (x.rank == .automatic), flag (x.link == .g)]) ++
        opt p.lastEnding ⟨.counter, .found, 0, none⟩ fun e =>
          [num 2 e.kind.code, num 2 e.outcome.code, sig 22 e.counter, num 2 (linkNo e.link)]) s) ∧
    exec (.readIndexListEntry l r item) s = .next
      (if item.toNat < 32 then partRead l 3 item (opt p.index[item.toNat]? 0 fun x => [sig 22 x]) s
      else refusedArgument l s) ∧
    exec (.readGauge l r item) s = .next (match part with
      | some fs => partRead l 4 item fs s
      | none => refusedArgument l s)

/-- TIME takes the requesting link's snapshot and returns its time; DATE returns the snapshot's date with its weekday and
releases it, or the live date. The label item's first part moves the queue's oldest packet into the link's read-out, its
second part gives the rest of the read-out and empties it. Clock status and receiver status change nothing but the port.
Readings of the model's own: log entry 9. -/
def Obligations.ClockAndLabelItemsRead : Prop :=
  ∀ (l : Link) (r : Rank) (item : Value) (s : State), liveIn s.power.state l = true → WriterLaw s →
    let c := s.clock
    let x := s.receiver
    let date := fun (d : Date) => [num 7 (d.year - 1990), num 4 d.month, num 5 d.day]
    let time := fun (y : Time) => [num 5 y.hour, num 6 y.minute, num 6 y.second]
    let shown := ((c.snapshot.get l).getD c.now).date
    let labels := fun (queue : List Packet) (out : Option Packet) (u : State) =>
      { u with receiver := { x with labels := queue, readOut := x.readOut.put l out } }
    exec (.readTime l r) s = .next (partRead l 5 0 (time c.now.time ++ [flag c.set, flag (c.source == .crystal)])
      { s with clock := { c with snapshot := c.snapshot.put l (some c.now) } }) ∧
    exec (.readDate l r) s = .next (partRead l 5 1 (date shown ++ [num 3 (dayNumber shown % 7)])
      { s with clock := { c with snapshot := c.snapshot.put l none } }) ∧
    exec (.readClockStatus l r item) s = .next (match item.toNat with
      | 2 => partRead l 5 item ([flag c.set, flag (c.source == .crystal)] ++
          opt (c.candidate.map fun y => y.identity) 0 (fun n => [num 12 n]) ++ [num 3 c.verdict.code]) s
      | 3 => partRead l 5 item (opt c.correction 0 fun n => [sig 24 (max (-8388607) (min 8388607 n))]) s
      | 4 => partRead l 5 item (opt (c.staged.get l) ⟨1990, 1, 1⟩ date) s
      | _ => refusedArgument l s) ∧
    exec (.readLabel l r) s = .next (partRead l 8 0
      (match x.labels with
        | .prog identity _ _ _ _ status :: rest =>
          [flag true, flag false, num 12 identity, num 2 status.code, num 2 rest.length]
        | .time identity _ offset :: rest => [flag true, flag true, num 12 identity, sig 7 offset, num 2 rest.length]
        | [] => [flag false, num 17 0])
      (labels x.labels.tail x.labels.head? s)) ∧
    exec (.readLabelSecondPart l r) s = .next (partRead l 8 1
      (match x.readOut.get l with
        | some (.prog _ day month hour minute _) => [flag true, num 5 day, num 4 month, num 5 hour, num 6 minute]
        | some (.time _ utc _) => flag true :: (date utc.date ++ time utc.time)
        | none => [flag false, num 20 0])
      (labels x.labels none s)) ∧
    exec (.readReceiverStatus l r item) s = .next
      (if item.toNat = 2 then
        partRead l 8 item ([flag x.live] ++
          opt (if x.live then none
            else if s.power.state ≠ .on then some 0
            else if s.tuner.lock ≠ .locked then some 1
            else if s.tuner.search.isSome then some 2
            else none) 0 (fun n => [num 2 n]) ++
          [num 2 x.state.code, num 3 x.lastReason.code, num 3 x.labels.length, flag (x.readOut.get l).isSome]) s
      else refusedArgument l s)

/-- The tuner status, applied preset, work-record, timer status, settings and link status items: each buffers its part
packed and replies with word 0, and an argument that names no part is refused BAD_ARG (2). The link status item gives the
pending set, the mask, and the rank that a user request takes on the link. Field 8 of the event work record reads back in the
form of its WRITE, with no presence bit before the label time, and the store status gives *defaults loaded*, a set of areas for which R186 has
no packing, as four flags in the fixed area order: the model's choices (log entry 9).
Readings of the model's own: log entry 9. -/
def Obligations.UnitItemsRead : Prop :=
  ∀ (l : Link) (r : Rank) (item : Value) (s : State), liveIn s.power.state l = true → WriterLaw s →
    let n := item.toNat
    let t := s.tuner
    let w := (s.port l).eventWork
    let e := w.defn
    let q := (s.port l).presetWork
    let b := s.store
    let date := fun (d : Date) => [num 7 (d.year - 1990), num 4 d.month, num 5 d.day]
    let day := fun (k : Nat) => date (dateOf k)
    let linkNo := fun (m : Link) => if m = .p then 0 else 1
    let moment := fun (y : DateTime) => date y.date ++ [num 5 y.time.hour, num 6 y.time.minute, num 6 y.time.second]
    let epoch : DateTime := ⟨⟨1990, 1, 1⟩, ⟨0, 0, 0⟩⟩
    let count := fun (f : Slot → Bool) => num 6 (s.slots.countP f)
    let answers := fun (code : Code) (part : Option (List Field)) => match part with
      | some fs => partRead l code item fs s
      | none => refusedArgument l s
    exec (.readTunerStatus l r item) s = .next (answers 6 (match n with
      | 0 => some ((match t.holder with
          | .none => [num 3 0, flag false, num 1 0, num 2 2]
          | .viewUser m => [num 3 1, flag false, num 1 0, num 2 (linkNo m)]
          | .viewAuto m => [num 3 2, flag false, num 1 0, num 2 (linkNo m)]
          | .search k m => [num 3 3, flag true, flag (k == .automatic), num 2 (linkNo m)]
          | .timer => [num 3 4, flag false, num 1 0, num 2 2]) ++
          (match t.source with
            | .preset k => [num 2 0, flag true, num 6 k]
            | .search => [num 2 1, flag false, num 6 0]
            | .none => [num 2 2, flag false, num 6 0]) ++ [flag t.stale, flag t.present])
      | 1 => some [num 15 t.divider, num 2 t.band.code, num 15 t.base, sig 6 t.fine, flag t.aft, sig 5 t.correction]
      | 2 => some [num 2 t.lock.code, flag t.retrySpent]
      | 3 => some (match t.search with
          | some x => [flag true, flag x.storing, flag x.down, num 2 x.phase.code, num 15 x.divider, num 10 x.steps,
              num 6 x.stored]
          | none => [flag false, num 35 0])
      | 4 => some (match t.lastEnding with
          | some x => [flag true, flag x.storing, num 3 x.outcome.code, num 6 x.stored, num 15 x.divider]
          | none => [flag false, num 25 0])
      | 5 => some (opt t.lastChanged 1 fun x => [num 6 x, num 8 (s.presets.getD (x - 1) .factory).version])
      | _ => none)) ∧
    exec (.readAppliedPreset l r item) s = .next (answers 7
      (if n = 0 then some (match t.source with
          | .preset k => [flag true, num 6 k]
          | _ => [flag false, num 6 0])
      else if n ≤ 60 then
        let p := s.presets.getD (n - 1) .factory
        some [flag p.stored, num 8 p.version, flag p.skip, num 3 p.name.length, flag p.identity.isSome, flag p.timeSource]
      else none)) ∧
    exec (.readEventWorkRecordField l r item) s = .next (answers 9 (match n with
      | 0 => some [flag e.enabled]
      | 1 => some [num 2 e.rep.code]
      | 2 => some (match e.date with
          | .calendar d => flag true :: date d
          | _ => [flag false, num 16 0])
      | 3 => some (match e.date with
          | .weekday k => [flag true, num 3 k]
          | _ => [flag false, num 3 0])
      | 4 => some [num 11 e.start]
      | 5 => some [num 11 e.stop]
      | 6 => some [num 6 e.preset]
      | 7 => some [num 2 e.speed.code]
      | 8 => some (match e.label with
          | .off => [num 13 0]
          | .on none => [num 2 1, num 11 0]
          | .on (some (h, m)) => [num 2 2, num 5 h, num 6 m])
      | 9 => some ([num 2 w.origin.code] ++ opt w.slot 0 (fun x => [num 5 x]) ++ [num 8 w.version, flag w.fetchedInUse])
      | 10 => some (opt w.shownOwner (.p, .user) fun o => [flag (o.1 == .g), flag (o.2 == .automatic)])
      | 11 => some (opt w.shownLastServed 0 day)
      | 12 => some (opt w.shownOutcome ⟨.recorded, 0, none, 0⟩ fun o =>
          [num 2 o.verdict.code] ++ opt o.verdict.reason? 0 (fun x => [num 4 x]) ++ opt o.speed .sp fun v => [num 2 v.code])
      | 13 => some (opt w.shownOutcome ⟨.recorded, 0, none, 0⟩ fun o => day o.day ++ [num 11 o.minutes])
      | 14 => some [flag w.shownConflict]
      | 15 => some ([count fun x => x.inUse, count fun x => x.inUse && x.defn.enabled, count fun x => x.conflict] ++
          opt (s.slots.findIdx? fun x => !x.inUse) 0 fun x => [num 5 x])
      | _ => none)) ∧
    exec (.readPresetWorkRecordField l r item) s = .next (answers 10 (match n with
      | 0 => some [flag q.record.stored]
      | 1 => some [num 15 q.record.divider]
      | 2 => some [num 20 (50 * q.record.divider - 38900)]
      | 3 => some [sig 6 q.record.fine]
      | 4 => some [flag q.record.aft]
      | 5 => some [flag q.record.skip]
      | 6 => some (num 3 q.record.name.length :: [0, 1, 2, 3, 4].map fun i => num 7 (q.record.name.getD i 0))
      | 7 => some (opt q.record.identity 0 fun x => [num 12 x])
      | 8 => some [flag q.record.timeSource]
      | 10 => some ([flag q.fetched] ++ opt q.number 0 (fun x => [num 6 x]) ++ [num 8 q.version])
      | _ => none)) ∧
    exec (.readTimerStatus l r item) s = .next (answers 11 (match n with
      | 0 => some ([flag s.engine.mode, flag s.engine.lock] ++ (match s.engine.current with
          | some o => flag true :: num 5 o.slot :: (day o.day ++ [num 3 o.phase.code])
          | none => [flag false, num 24 0]))
      | 1 => some (match s.engine.current with
          | some o => [flag true, num 26 o.start, num 26 o.stop] ++ opt o.speed .sp (fun v => [num 2 v.code]) ++
              [num 2 o.label.code, flag o.labelsSeen] ++ opt o.lastLabel epoch moment
          | none => [flag false, num 92 0])
      | 2 => some ((match s.engine.current with
          | some o => flag true :: (opt o.actualStart epoch moment ++ [num 11 (min (o.recorded / 36000) 1439)] ++
              opt (o.noted.map fun x => match x with
                | .lateStart => 0
                | .power => 1
                | .tapeEnd => 2
                | .fault => 3) 0 (fun x => [num 2 x]) ++ [flag o.powerRaised])
          | none => [flag false, num 49 0]) ++ [flag s.engine.powerReturn])
      | 3 => some [num 6 s.engine.due.length]
      | k => if 16 ≤ k ∧ k ≤ 47 then some (opt s.engine.due[k - 16]? ⟨0, 0, 0, 0, .user⟩ fun y =>
          num 5 y.slot :: (day y.day ++ [num 26 y.start, num 26 y.stop, flag (y.rank == .automatic)])) else none)) ∧
    exec (.readSettings l r item) s = .next (answers 12
      (let x := s.settings
      match n with
      | 0 => some [flag (x.standard == .f30)]
      | 1 => some [flag x.mains60]
      | 2 => some [flag (x.timebase == .crystal)]
      | 3 => some [num 3 x.defaultClass]
      | 4 => some [num 12 x.g100]
      | 5 => some [flag x.autoRewind]
      | 6 => some [flag x.autoPlay]
      | 7 => some [flag x.indexWrite]
      | 8 => some [flag x.autoClock]
      | 9 => some [num 4 x.lead]
      | 10 => some [num 5 x.labelLead]
      | 11 => some [num 8 x.extension]
      | 12 => some [num 2 x.fallbackSpeed.code]
      | 13 => some [num 2 x.manualSpeed.code]
      | 14 => some [flag x.guideRelays]
      | 15 => some [flag x.timerOn]
      | 16 => some ([num 2 s.power.state.code, flag s.power.raised] ++
          opt (s.power.pendingOff.map fun y => match y with
            | .userOff _ => 0
            | .lock => 1
            | .timerReturn => 2) 0 (fun y => [num 2 y]) ++
          opt s.power.lastChange ⟨.hold, .hold, .request⟩ fun y =>
            [num 2 y.fromState.code, num 2 y.toState.code, num 4 y.cause.code])
      | 17 => some ([flag b.dirty.presets, flag b.failed.presets, flag b.dirty.events, flag b.failed.events,
            flag b.dirty.settings, flag b.failed.settings, flag b.dirty.classes, flag b.failed.classes] ++
          opt (b.writer.map fun y => match y with
            | .presets _ => 0
            | .events _ => 1
            | .settings _ => 2
            | .classes _ => 3) 0 (fun y => [num 2 y]) ++
          opt (b.last.map Area.code) 0 (fun y => [num 2 y]) ++
          [flag b.defaults.presets, flag b.defaults.events, flag b.defaults.settings, flag b.defaults.classes])
      | _ => none)) ∧
    exec (.readLinkStatus l r item) s = .next { s with
      ports := portsAfter
        (s.modPort l fun p => { p with
          readBuffer := some ⟨13, item, [(s.port l).pending.zeroExtend 24, (s.port l).mask.zeroExtend 24,
            if l = .g ∧ s.settings.guideRelays = false then 1 else 0]⟩ })
        (some (l, accepted ((s.port l).pending.zeroExtend 24))) 0 }


/-! ## The tape transport (chapter 1) -/

/-- Entering a state: the transport record, the outputs of R2, the reports of R35 to the counter, the reels and the gauge,
and the kinds raised; nothing else. The rings, the references and the intervals taken are emptied where a running state is
entered from STOP or THREADING and where the tape turns round, and kept otherwise; coming to rest drops the references. -/
def Obligations.EnteringAState : Prop :=
  ∀ (new : TState) (s : State),
    let r := s.reels
    let moves : Option Direction := match new with
      | .play | .record | .cue | .fwind => some .forward
      | .review | .rwind => some .reverse
      | _ => none
    let starts := new.running && (s.transport.state == .stop || s.transport.state == .threading)
    let turns := moves.isSome && r.ringDirection.isSome && moves != r.ringDirection
    let empties := starts || turns
    (enter new s).transport = { s.transport with
      state := new
      intent := if new = .empty ∨ new = .fault then none else s.transport.intent.filter fun i => !i.names new
      tab := if new = .empty then .unknown else s.transport.tab
      speed := match new with
        | .play | .still | .cue | .review =>
          match s.pins.speedSense with
          | .lp => .lp
          | .ep => .ep
          | _ => .sp
        | .record | .recPause => s.transport.recordSpeed
        | .empty => .sp
        | _ => s.transport.speed
      oneTouch := if new = .record ∨ new = .recPause then s.transport.oneTouch else none
      motion := match new with
        | .inserting => .insert
        | .threading => .threadFirst
        | .unthreading => .unthread
        | .ejecting => .eject
        | _ => .stopped
      limit := match new with
        | .still => .still
        | .recPause => .recPause
        | .stop => .stopThreaded
        | _ => .stopped
      drum :=
        if new.drumState = false then .off else if s.transport.state.drumState then s.transport.drum else .spinUp } ∧
    (enter new s).outputs = { s.outputs with
      capstan := match new with
        | .play => .run (enter new s).transport.speed false 1
        | .still => .run (enter new s).transport.speed false 0
        | .record => .run s.transport.recordSpeed false 1
        | .recPause => .run s.transport.recordSpeed false 0
        | .cue => .run (enter new s).transport.speed false 7
        | .review => .run (enter new s).transport.speed true 7
        | _ => .halt
      reel := match new with
        | .play | .record | .cue => .takeUpTension
        | .review => .supplyTension
        | .fwind => .forward
        | .rwind => .reverse
        | _ => .off
      brake := match new with
        | .threading | .unthreading | .play | .record | .cue | .review | .fwind | .rwind => false
        | _ => true
      recordEnable := new == .record
      loading := match new with
        | .inserting => .inward
        | .ejecting => .outward
        | _ => .off
      threading := match new with
        | .threading => .inward
        | .unthreading => .outward
        | _ => .off } ∧
    (enter new s).position = { s.position with
      direction := match new with
        | .play | .record | .cue | .fwind => .forward
        | .review | .rwind => .reverse
        | _ => .atRest
      trackPresent := s.position.trackPresent && new.motion != .atRest
      pendingMark := s.position.pendingMark && !(s.transport.state == .record && new != .record) } ∧
    (enter new s).reels =
      { supplyRing := if empties then [] else r.supplyRing
        takeUpRing := if empties then [] else r.takeUpRing
        supplyRef := if empties || new.motion == .atRest then none else r.supplyRef
        takeUpRef := if empties || new.motion == .atRest then none else r.takeUpRef
        ringDirection := if starts || moves.isSome then moves else r.ringDirection
        supplyTaken := if empties then 0 else r.supplyTaken
        supervised := match new with
          | .play | .record | .cue | .fwind => some .takeUp
          | .review | .rwind => some .supply
          | _ => none
        stallTimer := match new, (enter new s).transport.speed with
          | .play, .sp | .record, .sp => some 3000
          | .play, .lp | .record, .lp => some 6000
          | .play, .ep | .record, .ep => some 9000
          | .cue, _ | .review, _ => some 1500
          | _, _ => none
        burst := if new = .fwind ∨ new = .rwind then .bursting 1 true else .none } ∧
    (enter new s).gauge = (if new.motion = .atRest then
      { s.gauge with ring := [], entries := 0,
                     estimate := if s.gauge.estimate = .current then .held else s.gauge.estimate }
      else s.gauge) ∧
    (enter new s).ports = raisedPorts s (enterKinds new s) ∧
    Untouched [.transport, .outputs, .position, .reels, .gauge, .ports] s (enter new s)

/-- The first check of R8 that fails gives the refusal, and the request then changes nothing but its own reply, an occurrence
being in progress or not. -/
def Obligations.TransportRefusals : Prop :=
  ∀ (l : Link) (r : Rank) (arg : Arg) (a : Ask) (code : Nat) (s : State),
    liveIn s.power.state l = true → s.undisturbed → WriterLaw s →
    transportRefusal s (effectiveRank s l r) a = some code →
    exec (a.command l r arg) s = .next { s with ports := portsAfter s (some (l, refusedWith code)) 0 }

/-- Accepted requests that lead directly from STOP or a running state to a running state, RECORD apart: the target is
entered with the holder set to the requester.
STOP from a running state enters STOP and releases the holder; from STOP, PARKED and EMPTY it changes nothing but a
link's holder, released.
Requests that R9 accepts with no change set the holder and nothing else. -/
def Obligations.TransportMovesTaken : Prop :=
  (∀ (l : Link) (r : Rank) (arg : Arg) (a : Ask) (target : TState) (s : State),
     (s.transport.state, a, target) ∈ directMoves → s.power.state = .on → s.undisturbed → WriterLaw s →
     s.position.search = none → transportRefusal s (effectiveRank s l r) a = none →
     exec (a.command l r arg) s = .next { enter target (heldBy l r s) with
       ports := portsAfter s (some (l, accepted 0)) (enterKinds target s) }) ∧
  (∀ (l : Link) (r : Rank) (arg : Arg) (s : State), s.power.state = .on → s.quiet → WriterLaw s →
     s.position.search = none → s.transport.intent = none → s.transport.holder ≠ .timer →
     transportRefusal s (effectiveRank s l r) .stop = none →
     (s.transport.state.running = true →
       exec (.stop l r arg) s = .next
         { enter .stop { s with transport := { s.transport with holder := .none } } with
           ports := portsAfter s (some (l, accepted 0)) (enterKinds .stop s) }) ∧
     (s.transport.state = .stop ∨ s.transport.state = .parked ∨ s.transport.state = .empty →
       exec (.stop l r arg) s = .next
         { s with transport := { s.transport with holder := .none }
                  ports := portsAfter s (some (l, accepted 0)) 0 })) ∧
  (∀ (l : Link) (r : Rank) (arg : Arg) (a : Ask) (s : State),
     (s.transport.state, a) ∈ unchangedMoves → s.power.state = .on → s.undisturbed → WriterLaw s →
     s.position.search = none → transportRefusal s (effectiveRank s l r) a = none →
     exec (a.command l r arg) s = .next { heldBy l r s with ports := portsAfter s (some (l, accepted 0)) 0 })

/-- A request that names a threaded target in PARKED enters THREADING with it as the intent; in INSERTING, THREADING and
UNTHREADING it replaces the intent; STOP leads THREADING to STOP and UNTHREADING to PARKED; a RECORD keeps its one-touch
count, at most 8.
EJECT enters EJECTING from PARKED, starts the chain through STOP and UNTHREADING from STOP and the running states, and
becomes the intent of a motion. -/
def Obligations.IntentsAndEjectTaken : Prop :=
  (∀ (l : Link) (r : Rank) (arg : Arg) (a : Ask) (i : Intent) (s : State),
     (a, i) ∈ [(Ask.play, Intent.play), (.record (.link (min arg.toNat 8)), .record (.link (min arg.toNat 8))),
       (.cue, .cue), (.review, .review), (.fwind, .fwind), (.rwind, .rwind)] →
     s.power.state = .on → s.undisturbed → WriterLaw s → s.position.search = none → s.transport.holder ≠ .timer →
     let note := if a = .record (.link 8) ∧ 8 < arg.toNat then accepted 0x020008#24 else accepted 0
     (transportRefusal s (effectiveRank s l r) a = none →
       (s.transport.state = .parked →
         exec (a.command l r arg) s = .next
           { enter .threading (setIntent (some i) (heldBy l r s)) with
             ports := portsAfter s (some (l, note)) (enterKinds .threading s) }) ∧
       (s.transport.state = .inserting ∨ s.transport.state = .threading ∨ s.transport.state = .unthreading →
         exec (a.command l r arg) s = .next
           { setIntent (some i) (heldBy l r s) with ports := portsAfter s (some (l, note)) 0 })) ∧
     (transportRefusal s (effectiveRank s l r) .stop = none →
       (s.transport.state = .threading →
         exec (.stop l r arg) s = .next
           { setIntent (some .stop) (heldBy l r s) with ports := portsAfter s (some (l, accepted 0)) 0 }) ∧
       (s.transport.state = .unthreading →
         exec (.stop l r arg) s = .next
           { setIntent (some .parked) (heldBy l r s) with ports := portsAfter s (some (l, accepted 0)) 0 }))) ∧
  (∀ (l : Link) (r : Rank) (arg : Arg) (s : State), s.power.state = .on → s.undisturbed → WriterLaw s →
     s.position.search = none → transportRefusal s (effectiveRank s l r) .eject = none →
     (s.transport.state = .parked →
       exec (.eject l r arg) s = .next
         { enter .ejecting (setIntent (some .eject) (heldBy l r s)) with
           ports := portsAfter s (some (l, accepted 0)) (enterKinds .ejecting s) }) ∧
     (s.transport.state = .stop →
       exec (.eject l r arg) s = .next
         { enter .unthreading (setIntent (some .eject) (heldBy l r s)) with
           ports := portsAfter s (some (l, accepted 0)) (enterKinds .unthreading s) }) ∧
     (s.transport.state.running = true →
       exec (.eject l r arg) s = .next
         { enter .unthreading (setIntent (some .eject) (enter .stop (heldBy l r s))) with
           ports := portsAfter s (some (l, accepted 0)) (enterKinds .stop s) }) ∧
     (s.transport.state = .inserting ∨ s.transport.state = .threading ∨ s.transport.state = .unthreading →
       exec (.eject l r arg) s = .next
         { setIntent (some .eject) (heldBy l r s) with ports := portsAfter s (some (l, accepted 0)) 0 }))

/-- RECORD from STOP enters RECORD at *manual record speed*, with a one-touch time of 30 minutes for each count and, under
*index write*, a mark pending; from REC_PAUSE RECORD and PAUSE resume at the record speed kept, with no mark, and only
RECORD with a count replaces the one-touch time. A count above 8 is taken as 8 and noted.
Readings of the model's own: log entry 13. -/
def Obligations.RecordStartsAndResumes : Prop :=
  ∀ (l : Link) (r : Rank) (arg : Arg) (s : State), s.power.state = .on → s.undisturbed → WriterLaw s →
    (∀ o, s.engine.current = some o → o.startSent = false) → s.position.search = none →
    let count := min arg.toNat 8
    let note := if 8 < arg.toNat then accepted 0x020008#24 else accepted 0
    let time := fun (u : State) =>
      { u with transport := { u.transport with
          oneTouch := if count = 0 then u.transport.oneTouch else some (count * 30 * 36000) } }
    (s.transport.state = .stop → transportRefusal s (effectiveRank s l r) (.record (.link count)) = none →
      exec (.record l r arg) s = .next
        (let u := time (enter .record
          { heldBy l r s with
            transport := { (heldBy l r s).transport with recordSpeed := s.settings.manualSpeed } })
        { u with
          position := { u.position with pendingMark := u.position.pendingMark || s.settings.indexWrite }
          ports := portsAfter s (some (l, note)) (enterKinds .record s) })) ∧
    (s.transport.state = .recPause → transportRefusal s (effectiveRank s l r) (.record (.link count)) = none →
      exec (.record l r arg) s = .next
        { time (enter .record (heldBy l r s)) with
          ports := portsAfter s (some (l, note)) (enterKinds .record s) }) ∧
    (s.transport.state = .recPause → transportRefusal s (effectiveRank s l r) .pause = none →
      exec (.pause l r arg) s = .next
        { enter .record (heldBy l r s) with
          ports := portsAfter s (some (l, accepted 0)) (enterKinds .record s) })

/-- CLEAR_FAULTS: refused FAULT (9) with EJECT_JAM; otherwise every fault goes but WIND_OVERLOAD above 4800, which is
answered BUSY (5); a removed jam leads from FAULT to UNTHREADING with intent PARKED under the requester.
CLEAR_FAULTS is refused by steps 1, 2 and 4 of the judging of a transport request: LOCKED (4) under the timer lock, NOT_ON
(15) at automatic rank with main power not ON, RANK (3) where the holder turns the requester away.
Readings of the model's own: log entry 14. -/
def Obligations.ClearFaultsRemoves : Prop :=
  (∀ (l : Link) (r : Rank) (arg : Arg) (s : State), s.power.state = .on → s.undisturbed → WriterLaw s →
     s.position.search = none → s.engine.lock = false →
     holderTurnsAway s.transport.holder (effectiveRank s l r) .play = false →
     let f := s.protection.faults
     let stays := f.windOverload && decide (4800 < s.protection.windLoad)
     let cleared : State :=
       { s with protection := { s.protection with faults := ⟨false, false, false, false, stays, false⟩ } }
     let reply := if stays then refusedWith 5 else accepted 0
     let changed := if cleared.protection = s.protection then 0 else 0x00002#18
     (f.ejectJam = true →
       exec (.clearFaults l r arg) s = .next { s with ports := portsAfter s (some (l, refusedWith 9)) 0 }) ∧
     (f.ejectJam = false → (f.threadJam || f.unthreadJam) = true →
       exec (.clearFaults l r arg) s = .next
         { enter .unthreading (setIntent (some .parked) (heldBy l r cleared)) with
           ports := portsAfter s (some (l, reply)) (changed ||| enterKinds .unthreading s) }) ∧
     (f.ejectJam = false → (f.threadJam || f.unthreadJam) = false →
       exec (.clearFaults l r arg) s = .next { cleared with ports := portsAfter s (some (l, reply)) changed })) ∧
  (∀ (l : Link) (r : Rank) (arg : Arg) (s : State), liveIn s.power.state l = true → s.undisturbed → WriterLaw s →
     let rank := effectiveRank s l r
     let refused := fun (code : Nat) => { s with ports := portsAfter s (some (l, refusedWith code)) 0 }
     (s.engine.lock = true → exec (.clearFaults l r arg) s = .next (refused 4)) ∧
     (s.engine.lock = false → s.power.state ≠ .on → rank = .automatic →
       exec (.clearFaults l r arg) s = .next (refused 15)) ∧
     (s.engine.lock = false → s.power.state = .on ∨ rank = .user →
       holderTurnsAway s.transport.holder rank .play = true → exec (.clearFaults l r arg) s = .next (refused 3)))

/-- The cassette switch: closing in EMPTY with main power ON enters INSERTING; opening in INSERTING abandons the insertion
and opening in EJECTING completes the ejection, both in EMPTY with CASSETTE raised; elsewhere only the reading changes.
The parked switch in INSERTING: the tab is read, the class is the default class, PARKED is entered with CASSETTE raised;
then the intent is carried out, or a tabless cassette plays. In UNTHREADING: PARKED, then the intent. In the reversal of a
threading attempt: the motor stops for the retry delay.
The threaded switch within an attempt: the intent is carried out if its checks hold, STOP is entered if they fail or
nothing is intended, and EJECT and PARKED go on to UNTHREADING.
Readings of the model's own: log entry 4. -/
def Obligations.MechanismSwitchesAct : Prop :=
  (∀ s : State, s.power.state ≠ .hold → s.undisturbed → WriterLaw s →
     let closed := { s with pins := { s.pins with cassetteClosed := true } }
     let opened := { s with pins := { s.pins with cassetteClosed := false } }
     let e := enter .empty opened
     (s.transport.state = .empty → s.power.state = .on → s.quiet →
       exec .cassetteSwitchCloses s = .next
         { enter .inserting closed with ports := portsAfter s none (enterKinds .inserting s) }) ∧
     (s.transport.state ≠ .empty →
       exec .cassetteSwitchCloses s = .next { closed with ports := portsAfter s none 0 }) ∧
     (s.transport.state = .inserting → s.quiet →
       exec .cassetteSwitchOpens s = .next
         { e with transport := released e.transport, gauge := { e.gauge with active := none }
                  ports := portsAfter s none (enterKinds .empty s ||| 0x00004#18) }) ∧
     (s.transport.state = .ejecting → s.quiet →
       exec .cassetteSwitchOpens s = .next
         { e with transport := released e.transport
                  position := { e.position with counter := 0, index := [] }
                  reels := { e.reels with supplyRing := [], takeUpRing := [], supplyRef := none, takeUpRef := none,
                                          ringDirection := none, supplyTaken := 0 }
                  gauge := { classes := s.gauge.classes, active := none, ring := [], entries := 0, estimate := .none,
                             fraction := none, remainingSp := none }
                  ports := portsAfter s none (0x00005#18 ||| if s.gauge.estimate = .none then 0 else 0x00020#18) }) ∧
     (s.transport.state ≠ .inserting → s.transport.state ≠ .ejecting →
       exec .cassetteSwitchOpens s = .next { opened with ports := portsAfter s none 0 })) ∧
  (∀ (tab : Bool) (i : Intent) (s : State), s.power.state ≠ .hold → s.undisturbed → WriterLaw s →
     let inserted := { s with transport := { s.transport with tab := if tab then .present else .absent },
                              gauge := { s.gauge with active := some s.settings.defaultClass } }
     let arrived := if s.transport.state = .inserting then inserted else s
     let cassette := if s.transport.state = .inserting then 0x00004#18 else 0
     let p := enter .parked arrived
     let ks := enterKinds .parked arrived ||| cassette
     let plays := !tab && s.settings.autoPlay && s.transport.holder == .none && !s.pins.tapeEnd &&
       !blockedBy s.protection.faults .play
     (s.transport.state = .unthreading ∨ s.transport.state = .inserting → s.quiet →
       (s.transport.intent = some .parked ∨
           s.transport.intent = none ∧ (s.transport.state = .unthreading ∨ plays = false) →
         exec (.parkedSwitchCloses tab) s = .next
           { p with transport := released { p.transport with intent := none }
                    ports := portsAfter s none ks }) ∧
       (s.transport.intent = none → s.transport.state = .inserting → plays = true →
         exec (.parkedSwitchCloses tab) s = .next
           { enter .threading
               { p with transport := { p.transport with holder := .auto .p, intent := some .play } } with
             ports := portsAfter s none ks }) ∧
       (s.transport.intent = some .eject →
         exec (.parkedSwitchCloses tab) s = .next { enter .ejecting p with ports := portsAfter s none ks }) ∧
       (s.transport.intent = some i → i ≠ .parked → i ≠ .eject → heldBack p i.target = false →
         exec (.parkedSwitchCloses tab) s = .next { enter .threading p with ports := portsAfter s none ks }) ∧
       (s.transport.intent = some i → i ≠ .parked → i ≠ .eject → heldBack p i.target = true →
         exec (.parkedSwitchCloses tab) s = .next
           { p with transport := released { p.transport with intent := none }
                    ports := portsAfter s none ks })) ∧
     (s.transport.state = .threading → s.transport.motion = .threadReversal →
       exec (.parkedSwitchCloses tab) s = .next
         { s with transport := { s.transport with motion := .threadDelay }
                  outputs := { s.outputs with threading := .off }
                  ports := portsAfter s none 0 })) ∧
  (∀ (i : Intent) (n : Nat) (s : State), s.power.state ≠ .hold → s.quiet → WriterLaw s →
     s.transport.state = .threading →
     s.transport.motion = .threadFirst ∨ s.transport.motion = .threadSecond → s.position.search = none →
     let stopped := fun (u : State) =>
       { enter .stop u with transport := released (enter .stop u).transport
                            ports := portsAfter s none (enterKinds .stop s) }
     (s.transport.intent = none ∨ s.transport.intent = some .stop →
       exec .threadedSwitchCloses s = .next (stopped s)) ∧
     (s.transport.intent = some .eject ∨ s.transport.intent = some .parked →
       exec .threadedSwitchCloses s = .next
         { enter .unthreading s with ports := portsAfter s none (enterKinds .unthreading s) }) ∧
     (s.transport.intent = some i → i ∈ [Intent.play, .cue, .review, .fwind, .rwind] → heldBack s i.target = false →
       exec .threadedSwitchCloses s = .next
         { enter i.target s with ports := portsAfter s none (enterKinds i.target s) }) ∧
     (s.transport.intent = some i → i ≠ .stop → i ≠ .parked → i ≠ .eject → heldBack s i.target = true →
       exec .threadedSwitchCloses s = .next (stopped (setIntent none s))) ∧
     (s.transport.intent = some (.record (.link n)) → heldBack s .record = false →
       exec .threadedSwitchCloses s = .next
         (let u := enter .record { s with transport := { s.transport with recordSpeed := s.settings.manualSpeed } }
         { u with
           transport := { u.transport with
             oneTouch := if n = 0 then u.transport.oneTouch else some (n * 30 * 36000) }
           position := { u.position with pendingMark := u.position.pendingMark || s.settings.indexWrite }
           ports := portsAfter s none (enterKinds .record s) })))

/-- The timers of the motions: INSERT_TIMEOUT pushes the cassette back out; a first THREAD_TIMEOUT reverses the motor, the
retry delay starts the second attempt, a second THREAD_TIMEOUT and an UNTHREAD_TIMEOUT of the reversal latch THREAD_JAM;
UNTHREAD_TIMEOUT latches UNTHREAD_JAM and EJECT_TIMEOUT latches EJECT_JAM.
The limits of STILL and REC_PAUSE and the end of the one-touch time lead to STOP with the holder released; the
stopped-threaded limit leads to UNTHREADING with intent PARKED.
Readings of the model's own: log entry 3. -/
def Obligations.MechanismTimersExpire : Prop :=
  (∀ s : State, s.power.state ≠ .hold → s.undisturbed → WriterLaw s →
     let f := s.protection.faults
     let threading := fun (m : MotionTimer) (d : MotorDrive) =>
       { s with transport := { s.transport with motion := m }, outputs := { s.outputs with threading := d }
                ports := portsAfter s none 0 }
     (s.transport.motion = .insert → s.quiet →
       exec .insertTimeout s = .next
         { enter .ejecting (setIntent none s) with ports := portsAfter s none (enterKinds .ejecting s) }) ∧
     (s.transport.motion = .threadFirst → exec .threadTimeout s = .next (threading .threadReversal .outward)) ∧
     (s.transport.motion = .threadDelay → exec .threadRetryDelay s = .next (threading .threadSecond .inward)) ∧
     (s.transport.motion = .threadSecond → s.quiet →
       exec .threadTimeout s = .next (jammed { f with threadJam := true } s)) ∧
     (s.transport.motion = .threadReversal → s.quiet →
       exec .unthreadTimeout s = .next (jammed { f with threadJam := true } s)) ∧
     (s.transport.motion = .unthread → s.quiet →
       exec .unthreadTimeout s = .next (jammed { f with unthreadJam := true } s)) ∧
     (s.transport.motion = .eject → s.quiet →
       exec .ejectTimeout s = .next (jammed { f with ejectJam := true } s))) ∧
  (∀ s : State, s.power.state ≠ .hold → s.undisturbed → WriterLaw s →
     let stopped :=
       { enter .stop s with transport := released (enter .stop s).transport
                            ports := portsAfter s none (enterKinds .stop s) }
     (s.transport.limit = .still → s.quiet → exec .stillLimit s = .next stopped) ∧
     (s.transport.limit = .recPause → s.quiet → exec .recPauseLimit s = .next stopped) ∧
     (s.transport.oneTouch ≠ none → s.transport.state = .record → s.quiet → exec .oneTouchTimeRunsOut s = .next stopped) ∧
     (s.transport.limit = .stopThreaded → s.transport.state = .stop →
       exec .stopThreadedLimit s = .next
         { enter .unthreading (setIntent (some .parked) s) with
           ports := portsAfter s none (enterKinds .unthreading s) }))

/-- An occurrence may be in progress; one whose start has been sent ends at a fault (OccurrenceDisturbed).
Drum supervision: the lock line leads SPIN_UP and LOST to LOCKED and LOCKED to LOST; the timers of SPIN_UP and LOST
latch DRUM_FAULT, once.
The speed-sense code is the current speed in PLAY, STILL, CUE and REVIEW, unknown taken as SP: a new speed is sent to
the capstan, and in PLAY a running stall timer starts again with its timeout. Elsewhere only the reading changes.
Every 100 ms the wind load changes by +4 in a wind, +2 in CUE and REVIEW, −1 elsewhere down to 0; an addition that
reaches 9600 holds there and latches WIND_OVERLOAD where it is absent.
The stall timer's expiry latches REEL_STALL where it is absent. The parts of the start bursts alternate, ON then OFF,
through eight bursts, the motor driven in the ON parts; the end of the eighth OFF part latches REEL_STALL.
Readings of the model's own: log entries 17 and 35. -/
def Obligations.TapeSupervised : Prop :=
  (∀ (present : Bool) (s : State), s.power.state ≠ .hold → s.undisturbed → WriterLaw s →
     let f := { s.protection.faults with drumFault := true }
     let unsent := ∀ o, s.engine.current = some o → s.transport.holder = .timer → o.startSent = false
     let unchanged := { s with ports := portsAfter s none 0 }
     (exec (.drumLockChange present) s = .next
       { s with pins := { s.pins with drumLock := present }
                transport := { s.transport with
                  drum := match s.transport.drum, present with
                    | .spinUp, true => .locked
                    | .locked, false => .lost
                    | .lost, true => .locked
                    | d, _ => d }
                ports := portsAfter s none 0 }) ∧
     (s.transport.drum = .spinUp → s.protection.faults.drumFault = false → unsent →
       exec .drumSpinUpTimeout s = .next (stoppedByFault f s)) ∧
     (s.transport.drum = .lost → s.protection.faults.drumFault = false → unsent →
       exec .drumLostTimeout s = .next (stoppedByFault f s)) ∧
     (s.protection.faults.drumFault = true →
       exec .drumSpinUpTimeout s = .next unchanged ∧ exec .drumLostTimeout s = .next unchanged)) ∧
  (∀ (code : SpeedCode) (s : State), WriterLaw s →
     let u := { s with pins := { s.pins with speedSense := code } }
     let v := match code with
       | .lp => Speed.lp
       | .ep => .ep
       | _ => .sp
     let reads := s.transport.state = .play ∨ s.transport.state = .still ∨ s.transport.state = .cue ∨
       s.transport.state = .review
     (reads → s.transport.speed ≠ v →
       exec (.speedSenseChange code) s = .next
         { u with
           transport := { s.transport with speed := v }
           outputs := { s.outputs with capstan := match s.transport.state with
             | .play => .run v false 1
             | .still => .run v false 0
             | .cue => .run v false 7
             | _ => .run v true 7 }
           reels := { s.reels with
             stallTimer :=
               if s.transport.state = .play ∧ s.reels.stallTimer ≠ none then
                 (match v with
                   | .sp => some 3000
                   | .lp => some 6000
                   | .ep => some 9000)
               else s.reels.stallTimer }
           ports := portsAfter s none 0 }) ∧
     (¬ reads ∨ s.transport.speed = v →
       exec (.speedSenseChange code) s = .next { u with ports := portsAfter s none 0 })) ∧
  (∀ s : State, s.power.state ≠ .hold → s.undisturbed → WriterLaw s →
     let add := match s.transport.state with
       | .fwind | .rwind => 4
       | .cue | .review => 2
       | _ => 0
     let load := fun (n : Nat) => { s with protection := { s.protection with windLoad := n } }
     (add = 0 → exec .windLoadTick s = .next { load (s.protection.windLoad - 1) with ports := portsAfter s none 0 }) ∧
     (add ≠ 0 → s.protection.windLoad + add < 9600 →
       exec .windLoadTick s = .next { load (s.protection.windLoad + add) with ports := portsAfter s none 0 }) ∧
     (add ≠ 0 → 9600 ≤ s.protection.windLoad + add → s.protection.faults.windOverload = true →
       exec .windLoadTick s = .next { load 9600 with ports := portsAfter s none 0 }) ∧
     (add ≠ 0 → 9600 ≤ s.protection.windLoad + add → s.protection.faults.windOverload = false →
       exec .windLoadTick s = .next (stoppedByFault { s.protection.faults with windOverload := true } (load 9600)))) ∧
  (∀ (n : Nat) (s : State), s.power.state ≠ .hold → s.undisturbed → WriterLaw s →
     let f := { s.protection.faults with reelStall := true }
     let unsent := ∀ o, s.engine.current = some o → s.transport.holder = .timer → o.startSent = false
     let part := fun (b : Burst) (driven : Bool) =>
       { s with reels := { s.reels with burst := b }
                outputs := { s.outputs with
                  reel := if driven = false then .off else if s.transport.state = .fwind then .forward else .reverse }
                ports := portsAfter s none 0 }
     (s.reels.stallTimer ≠ none → s.transport.state.running = true → s.protection.faults.reelStall = false → unsent →
       exec .stallTimerExpiry s = .next (stoppedByFault f s)) ∧
     (s.reels.stallTimer ≠ none → s.protection.faults.reelStall = true →
       exec .stallTimerExpiry s = .next
         { s with reels := { s.reels with stallTimer := none, supervised := none }, ports := portsAfter s none 0 }) ∧
     (s.transport.state = .fwind ∨ s.transport.state = .rwind →
       (s.reels.burst = .bursting n true → exec .burstPartEnd s = .next (part (.bursting n false) false)) ∧
       (s.reels.burst = .bursting n false → n < 8 →
         exec .burstPartEnd s = .next (part (.bursting (n + 1) true) true)) ∧
       (s.reels.burst = .bursting 8 false → s.protection.faults.reelStall = false → unsent →
         exec .burstPartEnd s = .next (stoppedByFault f s))))

/-- A tape sensor that becomes active in a state that moves toward it leads to STOP with TAPE_EDGE and ends a search
NOT_FOUND; at the tape's end auto-rewind follows under a link's holder, else the holder is released. In any other state, and
where a sensor becomes inactive, only the reading changes.
Readings of the model's own: log entry 4. -/
def Obligations.TapeEdgesStop : Prop :=
  ∀ s : State, s.power.state ≠ .hold → s.undisturbed → WriterLaw s →
    let ended := { s with pins := { s.pins with tapeEnd := true } }
    let started := { s with pins := { s.pins with tapeStart := true } }
    let at_ := fun (u : State) => { enter .stop u with position := endedSearch .notFound (enter .stop u).position }
    let ks := enterKinds .stop s ||| 0x00008#18 ||| endKinds s
    let rewinds := s.settings.autoRewind && s.transport.holder.ofLink && !s.protection.faults.reelStall &&
      !s.protection.faults.windOverload
    (s.transport.state ∈ [TState.play, .record, .cue, .fwind] → rewinds = true → s.quiet →
      exec (.tapeEndSensorActive true) s = .next { enter .rwind (at_ ended) with ports := portsAfter s none ks }) ∧
    (s.transport.state ∈ [TState.play, .record, .cue, .fwind] → rewinds = false → s.quiet →
      exec (.tapeEndSensorActive true) s = .next
        { at_ ended with transport := released (at_ ended).transport, ports := portsAfter s none ks }) ∧
    (s.transport.state ∈ [TState.review, .rwind] → s.quiet →
      exec (.tapeStartSensorActive true) s = .next
        { at_ started with transport := released (at_ started).transport, ports := portsAfter s none ks }) ∧
    (s.transport.state ∉ [TState.play, .record, .cue, .fwind] →
      exec (.tapeEndSensorActive true) s = .next { ended with ports := portsAfter s none 0 }) ∧
    (s.transport.state ∉ [TState.review, .rwind] →
      exec (.tapeStartSensorActive true) s = .next { started with ports := portsAfter s none 0 }) ∧
    exec (.tapeEndSensorActive false) s = .next
      { s with pins := { s.pins with tapeEnd := false }, ports := portsAfter s none 0 } ∧
    exec (.tapeStartSensorActive false) s = .next
      { s with pins := { s.pins with tapeStart := false }, ports := portsAfter s none 0 }

/-! ## Counter, marks and searches (chapter 2) -/

/-- A control-track pulse with no search running: outside motion it only ends a strobe; in motion the counter moves by one,
saturating, a pending mark is written in RECORD and a flagged pulse read elsewhere, each offered to the index list, and a
wind that reaches zero under memory stop comes to rest with SEARCH_END, no occurrence being current. A second of motion
without a pulse makes the track status ABSENT. But for the memory stop an occurrence may be in progress.
Readings of the model's own: log entry 37. -/
def Obligations.PulseCounts : Prop :=
  ∀ (mark : Bool) (s : State), s.power.state ≠ .hold → s.undisturbed → WriterLaw s → s.position.search = none →
    let p := s.position
    let bound := boundOf s.settings.standard
    let counter := if p.direction = .forward then min (p.counter + 1) bound else max (p.counter - 1) (-bound)
    let writes := p.pendingMark && s.transport.state == .record
    let reads := mark && [TState.play, .cue, .review, .fwind, .rwind].contains s.transport.state
    let index := if writes || reads then admitMark (framesOf s.settings.standard) counter counter p.index else p.index
    let counted :=
      { s with outputs := { s.outputs with strobe := writes }
               position := { p with counter := counter, trackPresent := true, index := index,
                                    pendingMark := p.pendingMark && !writes } }
    let stops := p.memoryStop &&
      (s.transport.state == .fwind && p.counter == -1 || s.transport.state == .rwind && p.counter == 1)
    (p.direction = .atRest →
      exec (.controlTrackPulse mark) s = .next
        { s with outputs := { s.outputs with strobe := false }, ports := portsAfter s none 0 }) ∧
    (p.direction ≠ .atRest →
      exec .trackStatusTimeout s = .next
        { s with position := { p with trackPresent := false }, ports := portsAfter s none 0 }) ∧
    (p.direction = s.transport.state.motion → p.direction ≠ .atRest → -bound ≤ p.counter → p.counter ≤ bound →
      (stops = false →
        exec (.controlTrackPulse mark) s = .next { counted with ports := portsAfter s none 0 }) ∧
      (stops = true → s.quiet →
        exec (.controlTrackPulse mark) s = .next
          (let u := enter .stop
            { counted with
              position := { counted.position with
                lastEnding := some ⟨.memory, .found, 0, s.transport.holder.link?⟩ } }
          { u with transport := released u.transport
                   ports := portsAfter s none (enterKinds .stop s ||| 0x00010#18) })))

/-- An offered position: turned away by an entry within F frames; else put in its place in increasing order, from a list of
32 the entry farthest from the counter leaving, the lower of two equally far. -/
def Obligations.IndexListAdmits : Prop :=
  ∀ (spacing : Nat) (counter position : Int) (list : List Int), list.Pairwise (· < ·) →
    ((∃ e ∈ list, (e - position).natAbs ≤ spacing) → admitMark spacing counter position list = list) ∧
    ((∀ e ∈ list, spacing < (e - position).natAbs) → list.length < 32 →
      (admitMark spacing counter position list).Pairwise (· < ·) ∧
      (admitMark spacing counter position list).Perm (position :: list)) ∧
    ((∀ e ∈ list, spacing < (e - position).natAbs) → 32 ≤ list.length →
      ∃ gone ∈ list,
        (∀ e ∈ list, (counter - e).natAbs < (counter - gone).natAbs ∨
          (counter - e).natAbs = (counter - gone).natAbs ∧ gone ≤ e) ∧
        (admitMark spacing counter position list).Pairwise (· < ·) ∧
        (admitMark spacing counter position list).Perm (position :: list.erase gone))

/-- Every step keeps the index list in order, spaced and at most 32 long, and the counter and the list within range. -/
def Obligations.IndexListKept : Prop :=
  ∀ s t : State, IndexLaw s → step s = .next t → IndexLaw t

/-- RESET_COUNTER makes the present position zero and shifts the list and a running search's target with it; entries out of
range go, and a target out of range ends the search ABORTED with the tape brought to rest.
The tape is brought to rest so where no occurrence is current; the rest holds with one in progress too.
RESET_COUNTER leaves a counting search as it is. In phase THREAD a target that would leave the range ends the search
ABORTED and the threading goes on; one within it is shifted.
In EMPTY, where the counter is 0 and the list empty (MechanismLaw, kept by every step; log entry 16), it changes nothing.
MEMORY_STOP sets the memory stop ON with 1 and OFF with 0; any other argument is refused BAD_ARG (2). -/
def Obligations.CounterRequestsAct : Prop :=
  (∀ (l : Link) (r : Rank) (arg : Arg) (x : Search) (target : Int) (s : State),
     liveIn s.power.state l = true → s.undisturbed → WriterLaw s →
     let bound := boundOf s.settings.standard
     let p := { s.position with
       counter := 0
       index := (s.position.index.map fun e => e - s.position.counter).filter fun e => decide (-bound ≤ e ∧ e ≤ bound) }
     let shifted := target - s.position.counter
     (s.position.search = none →
       exec (.resetCounter l r arg) s = .next { s with position := p, ports := portsAfter s (some (l, accepted 0)) 0 }) ∧
     (s.position.search = some x → x.mode = .target target → -bound ≤ shifted → shifted ≤ bound →
       exec (.resetCounter l r arg) s = .next
         { s with position := { p with search := some { x with mode := .target shifted } }
                  ports := portsAfter s (some (l, accepted 0)) 0 }) ∧
     (s.position.search = some x → x.mode = .target target → (shifted < -bound ∨ bound < shifted) →
       s.transport.state.running = true → s.quiet →
       exec (.resetCounter l r arg) s = .next
         (let u := enter .stop { s with position := endedSearch .aborted p }
         { u with transport := released u.transport
                  ports := portsAfter s (some (l, accepted 0)) (0x00010#18 ||| enterKinds .stop s) })) ∧
     (s.position.search = none → s.transport.state = .empty → MechanismLaw s →
       exec (.resetCounter l r arg) s = .next { s with ports := portsAfter s (some (l, accepted 0)) 0 })) ∧
  (∀ (l : Link) (r : Rank) (arg : Arg) (x : Search) (n : Nat) (target : Int) (s : State),
     liveIn s.power.state l = true → s.undisturbed → WriterLaw s → s.position.search = some x →
     let bound := boundOf s.settings.standard
     let p := { s.position with
       counter := 0
       index := (s.position.index.map fun e => e - s.position.counter).filter fun e => decide (-bound ≤ e ∧ e ≤ bound) }
     let shifted := target - s.position.counter
     (x.mode = .counting n →
       exec (.resetCounter l r arg) s = .next { s with position := p, ports := portsAfter s (some (l, accepted 0)) 0 }) ∧
     (x.mode = .target target → x.phase = .thread → s.transport.state = .threading →
       exec (.resetCounter l r arg) s = .next
         (if -bound ≤ shifted ∧ shifted ≤ bound then
           { s with position := { p with search := some { x with mode := .target shifted } }
                    ports := portsAfter s (some (l, accepted 0)) 0 }
         else { s with position := endedSearch .aborted p, ports := portsAfter s (some (l, accepted 0)) 0x00010#18 }))) ∧
  (∀ (l : Link) (r : Rank) (arg : Arg) (s : State), liveIn s.power.state l = true → WriterLaw s →
     exec (.memoryStop l r arg) s = .next
       (if arg = 0 ∨ arg = 1 then
         { s with position := { s.position with memoryStop := decide (arg = 1) }
                  ports := portsAfter s (some (l, accepted 0)) 0 }
       else { s with ports := portsAfter s (some (l, refusedWith 2)) 0 }))

/-- A search request is refused by the first check of R47 that fails. SEARCH_COUNTER has bit 22 for the end action and a
target of 22 signed bits; SEARCH_INDEX a signed count of magnitude 1 to 20.
An accepted SEARCH_COUNTER with main power ON and no search running: in PARKED it waits while the tape is threaded; at
the target it ends FOUND at once with its end action; else it begins with CUE or REVIEW within 10·F frames and with a wind
beyond.
An accepted SEARCH_INDEX with main power ON and no search running: its target is the n-th entry beyond the counter, or
it counts marks where there are fewer; its end action is PLAY.
A search that waits in phase THREAD begins when the threaded switch closes with intent STOP, from STOP and with the counter
as it then stands; with another intent it ends ABORTED as the tape moves on.
Readings of the model's own: log entry 15. -/
def Obligations.SearchesBegin : Prop :=
  (∀ (l : Link) (r : Rank) (arg : Arg) (code : Nat) (s : State),
     liveIn s.power.state l = true → s.undisturbed → WriterLaw s →
     let target := (arg.extractLsb' 0 22).toInt
     let inRange := decide (arg.toNat < 8388608 ∧ target.natAbs ≤ (boundOf s.settings.standard).natAbs)
     let ahead := if target = s.position.counter then none else some (decide (s.position.counter < target))
     let count := decide (1 ≤ arg.toInt.natAbs ∧ arg.toInt.natAbs ≤ 20)
     (searchRefusal s (effectiveRank s l r) inRange ahead = some code →
       exec (.searchCounter l r arg) s = .next { s with ports := portsAfter s (some (l, refusedWith code)) 0 }) ∧
     (searchRefusal s (effectiveRank s l r) count (some (decide (0 < arg.toInt))) = some code →
       exec (.searchIndex l r arg) s = .next { s with ports := portsAfter s (some (l, refusedWith code)) 0 })) ∧
  (∀ (l : Link) (r : Rank) (arg : Arg) (s : State), s.power.state = .on → s.undisturbed → WriterLaw s →
     s.position.search = none → s.transport.intent = none →
     let target := (arg.extractLsb' 0 22).toInt
     let inRange := decide (arg.toNat < 8388608 ∧ target.natAbs ≤ (boundOf s.settings.standard).natAbs)
     let ahead := if target = s.position.counter then none else some (decide (s.position.counter < target))
     let x : Search :=
       { index := false, count := 0, mode := .target target, direction := ahead.map fun b => if b then .forward else .reverse,
         phase := .thread, endPlay := arg.getLsbD 22, rank := effectiveRank s l r, link := l }
     let h := heldBy l r s
     let found := { h with position := { h.position with
       lastEnding := some ⟨.counter, .found, s.position.counter, some l⟩ } }
     searchRefusal s (effectiveRank s l r) inRange ahead = none →
     (s.transport.state = .parked →
       exec (.searchCounter l r arg) s = .next
         { enter .threading (setIntent (some .stop) { h with position := { h.position with search := some x } }) with
           ports := portsAfter s (some (l, accepted 0)) (enterKinds .threading s) }) ∧
     (s.transport.state ≠ .parked → target ≠ s.position.counter →
       exec (.searchCounter l r arg) s = .next
         { searchBegun x h with
           ports := portsAfter s (some (l, accepted 0)) (searchKinds s (searchBegun x h)) }) ∧
     (s.transport.state ≠ .parked → target = s.position.counter → x.endPlay = true → s.pins.tapeEnd = false →
       exec (.searchCounter l r arg) s = .next
         { movedTo .play found with
           ports := portsAfter s (some (l, accepted 0)) (0x00010#18 ||| searchKinds s (movedTo .play found)) }) ∧
     (s.transport.state ≠ .parked → target = s.position.counter → x.endPlay = false → s.transport.holder ≠ .timer →
       s.quiet → exec (.searchCounter l r arg) s = .next
         (let u := if s.transport.state = .stop then found else enter .stop found
         { u with transport := { u.transport with holder := .none }
                  ports := portsAfter s (some (l, accepted 0))
                    (0x00010#18 ||| if s.transport.state = .stop then 0 else enterKinds .stop s) }))) ∧
  (∀ (l : Link) (r : Rank) (arg : Arg) (s : State), s.power.state = .on → s.undisturbed → WriterLaw s →
     s.position.search = none →
     let n := arg.toInt
     let count := decide (1 ≤ n.natAbs ∧ n.natAbs ≤ 20)
     let candidates :=
       if 0 < n then s.position.index.filter fun e => decide (s.position.counter < e)
       else (s.position.index.filter fun e => decide (e < s.position.counter)).reverse
     let x : Search :=
       { index := true, count := n,
         mode := match candidates[n.natAbs - 1]? with
           | some t => .target t
           | none => .counting n.natAbs
         direction := some (if 0 < n then .forward else .reverse), phase := .thread, endPlay := true,
         rank := effectiveRank s l r, link := l }
     let h := heldBy l r s
     searchRefusal s (effectiveRank s l r) count (some (decide (0 < n))) = none →
     (s.transport.state = .parked →
       exec (.searchIndex l r arg) s = .next
         { enter .threading (setIntent (some .stop) { h with position := { h.position with search := some x } }) with
           ports := portsAfter s (some (l, accepted 0)) (enterKinds .threading s) }) ∧
     (s.transport.state ≠ .parked →
       exec (.searchIndex l r arg) s = .next
         { searchBegun x h with
           ports := portsAfter s (some (l, accepted 0)) (searchKinds s (searchBegun x h)) })) ∧
  (∀ (x : Search) (t : Int) (s : State), s.power.state ≠ .hold → s.undisturbed → WriterLaw s →
     s.transport.state = .threading → s.transport.motion = .threadFirst ∨ s.transport.motion = .threadSecond →
     s.position.search = some x → x.phase = .thread → s.protection.faults = ⟨false, false, false, false, false, false⟩ →
     s.pins.tapeEnd = false → s.pins.tapeStart = false →
     let c := s.position.counter
     let forward := if x.index then decide (0 < x.count) else decide (c < t)
     let list := s.position.index
     let candidates := if 0 < x.count then list.filter fun e => decide (c < e)
       else (list.filter fun e => decide (e < c)).reverse
     let y := { x with
       direction := some (if forward then .forward else .reverse)
       mode := if x.index = false then .target t
         else match candidates[x.count.natAbs - 1]? with
           | some e => .target e
           | none => .counting x.count.natAbs }
     let u := enter .stop s
     let found := { u with position := { u.position with
       search := none, lastEnding := some ⟨.counter, .found, c, some x.link⟩ } }
     (s.transport.intent = some .stop → x.index = false → x.mode = .target t → t ≠ c →
       exec .threadedSwitchCloses s = .next
         { searchBegun y u with ports := portsAfter s none (enterKinds .stop s) }) ∧
     (s.transport.intent = some .stop → x.index = true → 1 ≤ x.count.natAbs →
       exec .threadedSwitchCloses s = .next
         { searchBegun y u with ports := portsAfter s none (enterKinds .stop s) }) ∧
     (s.transport.intent = some .stop → x.index = false → x.mode = .target c → x.endPlay = false → s.quiet →
       exec .threadedSwitchCloses s = .next
         { found with transport := released found.transport
                      ports := portsAfter s none (0x00010#18 ||| enterKinds .stop s) }) ∧
     (s.transport.intent = some .play →
       exec .threadedSwitchCloses s = .next
         (let v := enter .play s
         { v with position := endedSearch .aborted v.position
                  ports := portsAfter s none (0x00010#18 ||| enterKinds .play s) })))

/-- A running search judged after a counted pulse without a mark: in WIND it goes on until the distance is 10·F or less,
then scans in the same direction; in APPROACH it goes on until the counter is the target, then ends FOUND in PLAY or STOP.
A counted mark in COUNTING mode lowers the marks to pass and at the last one plays. -/
def Obligations.SearchJudgedAfterPulse : Prop :=
  ∀ (x : Search) (target : Int) (n : Nat) (s : State), s.power.state = .on → s.undisturbed → WriterLaw s →
    s.position.search = some x → s.position.pendingMark = false → s.protection.faults = ⟨false, false, false, false, false, false⟩ →
    s.pins.tapeEnd = false → s.pins.tapeStart = false → s.position.direction = s.transport.state.motion →
    -boundOf s.settings.standard ≤ s.position.counter → s.position.counter ≤ boundOf s.settings.standard →
    let p := s.position
    let bound := boundOf s.settings.standard
    let counter := if p.direction = .forward then min (p.counter + 1) bound else max (p.counter - 1) (-bound)
    let counted := { s with outputs := { s.outputs with strobe := false }
                            position := { p with counter := counter, trackPresent := true } }
    let offered := { counted with position := { counted.position with
      index := admitMark (framesOf s.settings.standard) counter counter p.index } }
    let found := fun (u : State) => { u with position := endedSearch .found u.position }
    let near := (target - counter).natAbs ≤ 10 * framesOf s.settings.standard
    (x.mode = .target target →
      (s.transport.state = .fwind ∨ s.transport.state = .rwind → x.phase = .wind → ¬ near →
        exec (.controlTrackPulse false) s = .next { counted with ports := portsAfter s none 0 }) ∧
      (s.transport.state = .fwind ∨ s.transport.state = .rwind → x.phase = .wind → near →
        exec (.controlTrackPulse false) s = .next
          { enter (if x.direction = some .reverse then .review else .cue)
              { counted with position := { counted.position with search := some { x with phase := .approach } } } with
            ports := portsAfter s none 0x00001#18 }) ∧
      (s.transport.state = .cue ∨ s.transport.state = .review → x.phase = .approach → counter ≠ target →
        exec (.controlTrackPulse false) s = .next { counted with ports := portsAfter s none 0 }) ∧
      (s.transport.state = .cue ∨ s.transport.state = .review → x.phase = .approach → counter = target →
        x.endPlay = true →
        exec (.controlTrackPulse false) s = .next
          { enter .play (found counted) with ports := portsAfter s none 0x00011#18 }) ∧
      (s.transport.state = .cue ∨ s.transport.state = .review → x.phase = .approach → counter = target →
        x.endPlay = false → s.quiet →
        exec (.controlTrackPulse false) s = .next
          (let u := enter .stop (found counted)
          { u with transport := released u.transport
                   ports := portsAfter s none (0x00010#18 ||| enterKinds .stop s) }))) ∧
    (x.mode = .counting n → x.phase = .wind → s.transport.state = .fwind ∨ s.transport.state = .rwind →
      x.endPlay = true →
      (2 ≤ n →
        exec (.controlTrackPulse true) s = .next
          { offered with position := { offered.position with search := some { x with mode := .counting (n - 1) } }
                         ports := portsAfter s none 0 }) ∧
      (n = 1 →
        exec (.controlTrackPulse true) s = .next
          { enter .play (found offered) with ports := portsAfter s none 0x00011#18 }))


/-! ## Reels and gauge (chapter 3) -/

/-- The fraction of tape remaining: the quotient 10,000·P / Q to the nearest whole number, an exact half taken upward, and
at most 10,000; Q and the fraction lie in the ranges given. -/
def Obligations.FractionRoundsHalfUp : Prop :=
  ∀ (g100 ts tt : Nat), 150 ≤ g100 → g100 ≤ 2500 → 6 ≤ ts → ts ≤ 65535 → 6 ≤ tt → tt ≤ 65535 →
    let a := ts * ts
    let b := tt * tt
    let p : Int := max 0 ((g100 : Int) * a - 100 * b)
    let q : Int := ((g100 : Int) - 100) * (a + b)
    let f : Int := fractionOf g100 ts tt
    36 ≤ a ∧ a ≤ 4294836225 ∧ 36 ≤ b ∧ b ≤ 4294836225 ∧ 3600 ≤ q ∧ 0 ≤ f ∧ f ≤ 10000 ∧
    (f < 10000 → f * q ≤ 10000 * p + q / 2 ∧ 10000 * p + q / 2 < (f + 1) * q) ∧
    (f = 10000 → 10000 * q ≤ 10000 * p + q / 2)

/-- A reel pulse in motion: without a reference it sets one; else the interval, 1 to 65,535 ms, joins the ring of six. In
the bursts a pulse of the receiving reel ends them in full drive with the 1 s stall timer. A sixth supply interval with both
rings full enters a fraction, and at the fourth entry the estimate is published with GAUGE (bit 5). At rest or in HOLD a
pulse is not taken. With no class active the remaining time published is free within its range (log entry 52).
Readings of the model's own: log entry 30. -/
def Obligations.ReelPulseTaken : Prop :=
  ∀ (reel : Reel) (now : Nat) (s : State), WriterLaw s →
    s.outputs.reel = reelDriveOf s.transport.state s.reels.burst →
    let r := s.reels
    let last := fun (n : Nat) (ring : List Nat) (x : Nat) => (ring ++ [x]).drop (ring.length + 1 - n)
    let interval := fun (ref : Nat) => max 1 (min 65535 (now - ref))
    let supply := match reel, r.supplyRef with
      | .supply, some ref => last 6 r.supplyRing (interval ref)
      | _, _ => r.supplyRing
    let takeUp := match reel, r.takeUpRef with
      | .takeUp, some ref => last 6 r.takeUpRing (interval ref)
      | _, _ => r.takeUpRing
    let counted := reel == .supply && r.supplyRef.isSome
    let ends := r.supervised == some reel && (match r.burst with
      | .bursting _ _ => true
      | _ => false)
    let taken : State :=
      { s with
        reels := { r with
          supplyRing := supply
          takeUpRing := takeUp
          supplyRef := if reel = .supply then some now else r.supplyRef
          takeUpRef := if reel = .takeUp then some now else r.takeUpRef
          supplyTaken := if counted then (r.supplyTaken + 1) % 6 else r.supplyTaken
          burst := if ends then .full else r.burst
          stallTimer := if ends then some 1000 else r.stallTimer }
        outputs := { s.outputs with
          reel := if ends then
              (match s.transport.state with
                | .fwind => .fullForward
                | .rwind => .fullReverse
                | _ => s.outputs.reel)
            else s.outputs.reel } }
    let offers := counted && (r.supplyTaken + 1) % 6 == 0 && supply.length == 6 && takeUp.length == 6
    let f := fractionOf s.settings.g100 (min supply.sum 65535) (min takeUp.sum 65535)
    let fractions := last 4 s.gauge.ring f
    let remaining := fun (fraction : Nat) => match s.gauge.active with
      | some n => s.gauge.classes.getD n 0 * 60 * fraction / 10000
      | none => min (Config.unclassedRemaining fraction) 28800
    (s.power.state = .hold ∨ s.transport.state.motion = .atRest →
      exec (.reelPulse reel now) s = .next { s with ports := portsAfter s none 0 }) ∧
    (s.power.state ≠ .hold → s.transport.state.motion ≠ .atRest → offers = false →
      exec (.reelPulse reel now) s = .next { taken with ports := portsAfter s none 0 }) ∧
    (s.power.state ≠ .hold → s.transport.state.motion ≠ .atRest → offers = true → (s.gauge.entries + 1) % 4 ≠ 0 →
      exec (.reelPulse reel now) s = .next
        { taken with gauge := { s.gauge with ring := fractions, entries := (s.gauge.entries + 1) % 4 }
                     ports := portsAfter s none 0 }) ∧
    (s.power.state ≠ .hold → s.transport.state.motion ≠ .atRest → offers = true → (s.gauge.entries + 1) % 4 = 0 →
      exec (.reelPulse reel now) s = .next
        { taken with gauge := { s.gauge with ring := fractions, entries := 0, estimate := .current,
                                             fraction := some (fractions.sum / 4),
                                             remainingSp := some (remaining (fractions.sum / 4)) }
                     ports := portsAfter s none 0x00020#18 })

/-- SET_CASSETTE_CLASS: the class in bits 11..9, the minutes in bits 8..0. A bad argument is refused BAD_ARG (2), minutes 0
in EMPTY NO_CASSETTE (7); else the minutes given are written, the class becomes active outside EMPTY, and a change of the
active class or its minutes clears the estimate. -/
def Obligations.CassetteClassSet : Prop :=
  ∀ (l : Link) (r : Rank) (arg : Arg) (s : State), liveIn s.power.state l = true → WriterLaw s →
    s.gauge.classes.length = 8 →
    let n := (arg.extractLsb' 9 3).toNat
    let minutes := (arg.extractLsb' 0 9).toNat
    let good := decide (arg.toNat < 4096) && (minutes == 0 || (decide (30 ≤ minutes) && decide (minutes ≤ 480)))
    let g := s.gauge
    let writes := minutes != 0 && g.classes.getD n 0 != minutes
    let classes := if writes then g.classes.set n minutes else g.classes
    let active := if s.transport.state = .empty then g.active else some n
    let total := fun (c : List Nat) (x : Option Nat) => x.elim 0 fun i => c.getD i 0
    let change := active != g.active || total classes active != total g.classes g.active
    let after := { g with classes := classes, active := active }
    let gauge := if change then
        { after with ring := [], entries := 0, estimate := .none, fraction := none, remainingSp := none }
      else after
    let ks := if change && g.estimate != .none then 0x00020#18 else 0
    let t := if writes then areaChanged .classes { s with gauge := gauge } else { s with gauge := gauge }
    exec (.setCassetteClass l r arg) s = .next
      (if good = false then { s with ports := portsAfter s (some (l, refusedWith 2)) 0 }
      else if minutes = 0 ∧ s.transport.state = .empty then
        { s with ports := portsAfter s (some (l, refusedWith 7)) 0 }
      else { t with ports := portsAfter s (some (l, accepted 0)) ks })


/-! ## The clock (chapter 4) -/

/-- The day number counts whole days from 1990-01-01 by years, leap years, months and days; the weekday is its remainder by
7; the epoch minute adds 60 minutes an hour; dates and day numbers of the range correspond one to one. -/
def Obligations.CalendarCounts : Prop :=
  ∀ (d : Date) (t : Time) (n : Nat),
    (d.valid = true →
      dayNumber d = 365 * (d.year - 1990) + ((List.range (d.year - 1990)).filter fun k => (1990 + k) % 4 == 0).length +
        ((List.range (d.month - 1)).map fun k => monthLength d.year (k + 1)).sum + (d.day - 1) ∧
      dayNumber d < 36525 ∧ dateOf (dayNumber d) = d ∧ weekdayOf (dayNumber d) = dayNumber d % 7 ∧
      (t.hour < 24 → t.minute < 60 →
        epochMinute ⟨d, t⟩ = dayNumber d * 1440 + t.hour * 60 + t.minute ∧ epochMinute ⟨d, t⟩ ≤ 52595999)) ∧
    (∀ y : Nat, (List.range 12).map (fun m => monthLength y (m + 1)) =
      [31, if y % 4 = 0 then 29 else 28, 31, 30, 31, 30, 31, 31, 30, 31, 30, 31]) ∧
    (n < 36525 → (dateOf n).valid = true ∧ dayNumber (dateOf n) = n)

/-- The running clock's advance by one second carries through the fields: the instant after a valid one before the last of
the range is valid and one second later.
A mains cycle counts 12 or 10 on a MAINS source, a crystal tick 1 on a CRYSTAL source, and neither on the other source.
At 600 the second advances but at the last instant of the range; a new minute has the due list taken again, at midnight the
conflict flags too. In RECORD what is left of a one-touch time runs down, to no less than one unit, and the recorded time
of an occurrence in progress runs up, to 23 h 59 min (log entry 13).
In HOLD the clock runs on from the crystal, SET or UNSET: the counts, the second and the minute advance, the engine's list
is left, and at midnight the conflict flags are taken again.
Readings of the model's own: log entry 37. -/
def Obligations.TimebaseCounts : Prop :=
  (∀ x : DateTime, x.date.valid = true → x.time.hour < 24 → x.time.minute < 60 → x.time.second < 60 → x ≠ lastInstant →
     (nextSecond x).date.valid = true ∧ (nextSecond x).time.hour < 24 ∧ (nextSecond x).time.minute < 60 ∧
     (nextSecond x).time.second < 60 ∧ epochSecond (nextSecond x) = epochSecond x + 1) ∧
  (∀ (mains : Bool) (s : State), s.power.state ≠ .hold → s.undisturbed → WriterLaw s →
     let c := s.clock
     let command := if mains then Instr.mainsCycle else .crystalTick
     let k := if mains = false then 1 else if s.settings.mains60 then 10 else 12
     let counted :=
       { s with
         transport := { s.transport with
           oneTouch := if s.transport.state = TState.record then s.transport.oneTouch.map fun n => max 1 (n - k)
             else s.transport.oneTouch }
         engine := { s.engine with
           current := if s.transport.state = TState.record then
               s.engine.current.map fun o : Occurrence => { o with recorded := min (o.recorded + k) (86340 * 600) }
             else s.engine.current }
         clock := { c with subSecond := c.subSecond + k, elapsed := c.elapsed + k } }
     let wrapped := { counted with clock := { counted.clock with subSecond := c.subSecond + k - 600 } }
     let next := { wrapped with clock := { wrapped.clock with now := nextSecond c.now } }
     let time := (nextSecond c.now).time
     let u := if time.hour = 0 ∧ time.minute = 0 then rescheduled next
       else { next with engine := { next.engine with due := dueListOf next } }
     let ks := if time.hour = 0 ∧ time.minute = 0 then flagKinds next else 0
     (c.source ≠ (if mains then .mains else .crystal) →
       exec command s = .next { s with ports := portsAfter s none 0 }) ∧
     (c.source = (if mains then .mains else .crystal) →
       (c.subSecond + k < 600 → exec command s = .next { counted with ports := portsAfter s none 0 }) ∧
       (600 ≤ c.subSecond + k → c.now = ⟨⟨2089, 12, 31⟩, ⟨23, 59, 59⟩⟩ →
         exec command s = .next { wrapped with ports := portsAfter s none 0 }) ∧
       (600 ≤ c.subSecond + k → c.now ≠ ⟨⟨2089, 12, 31⟩, ⟨23, 59, 59⟩⟩ → time.second ≠ 0 →
         exec command s = .next { next with ports := portsAfter s none 0 }) ∧
       (600 ≤ c.subSecond + k → c.now ≠ ⟨⟨2089, 12, 31⟩, ⟨23, 59, 59⟩⟩ → time.second = 0 → s.quiet →
         s.noneStoppedBy next.now → next.calm →
         exec command s = .next { u with ports := portsAfter s none ks }))) ∧
  (∀ s : State, s.power.state = .hold → s.power.pendingOff = none → s.clock.source = .crystal →
     s.transport.state ≠ .record →
     let c := s.clock
     let counted := { s with clock := { c with subSecond := c.subSecond + 1, elapsed := c.elapsed + 1 } }
     let next := secondOn 1 s
     let midnight := decide (next.clock.now.time = ⟨0, 0, 0⟩)
     (c.subSecond + 1 < 600 → exec .crystalTick s = .next { counted with ports := portsAfter s none 0 }) ∧
     (600 ≤ c.subSecond + 1 → c.now ≠ ⟨⟨2089, 12, 31⟩, ⟨23, 59, 59⟩⟩ →
       exec .crystalTick s = .next
         { next with slots := if midnight then flagged next else s.slots, ports := portsAfter s none 0 }) ∧
     exec .mainsCycle s = .next { s with ports := portsAfter s none 0 })

/-- SET_DATE (year less 1990 in bits 15..9, month 8..5, day 4..0) stages a date of the calendar on its link; SET_TIME (hour
in bits 16..12, minute 11..6, second 5..0) applies a time of day with the staged date or the date held: the clock SET, the
candidate and the correction gone, CLOCK raised (bit 6), and in another minute the schedule taken again. A step forward first
judges each slot with a window that it has passed: one MISSED(CLOCK_STEP), for the latest date passed after the last served,
with TIMER_END (bit 12). Anything else is refused BAD_ARG (2). -/
def Obligations.ClockSetByHand : Prop :=
  ∀ (l : Link) (r : Rank) (arg : Arg) (s : State), liveIn s.power.state l = true → s.undisturbed → WriterLaw s →
    let d : Date := ⟨1990 + (arg.extractLsb' 9 7).toNat, (arg.extractLsb' 5 4).toNat, (arg.extractLsb' 0 5).toNat⟩
    let dated := decide (arg.toNat < 65536 ∧ d.year ≤ 2089 ∧ 1 ≤ d.month ∧ d.month ≤ 12 ∧ 1 ≤ d.day ∧
      d.day ≤ monthLength d.year d.month)
    let t : Time := ⟨(arg.extractLsb' 12 5).toNat, (arg.extractLsb' 6 6).toNat, (arg.extractLsb' 0 6).toNat⟩
    let timed := decide (arg.toNat < 131072 ∧ t.hour < 24 ∧ t.minute < 60 ∧ t.second < 60)
    let x : DateTime := ⟨(s.clock.staged.get l).getD s.clock.now.date, t⟩
    let u := { s with clock := { s.clock with
      now := x, subSecond := 0, set := true, staged := s.clock.staged.put l none, candidate := none,
      correction := none } }
    let refused := { s with ports := portsAfter s (some (l, refusedWith 2)) 0 }
    (exec (.setDate l r arg) s = .next
      (if dated then
        { s with clock := { s.clock with staged := s.clock.staged.put l (some d) }
                 ports := portsAfter s (some (l, accepted 0)) 0 }
      else refused)) ∧
    (timed = false → exec (.setTime l r arg) s = .next refused) ∧
    (timed = true → u.now = s.now →
      exec (.setTime l r arg) s = .next { u with ports := portsAfter s (some (l, accepted 0)) 0x00040#18 }) ∧
    (timed = true → u.now < s.now → s.quiet → s.noneStoppedBy u.now → u.calm →
      exec (.setTime l r arg) s = .next
        { rescheduled u with ports := portsAfter s (some (l, accepted 0)) (0x00040#18 ||| flagKinds u) }) ∧
    (timed = true → s.now < u.now → s.quiet → s.passedInUse u.now → (judgedPassed .clockStep u).calm →
      exec (.setTime l r arg) s = .next { stepTaken u with
        ports := portsAfter s (some (l, accepted 0)) (0x00040#18 ||| missedKinds .clockStep u ||| flagKinds u) })

/-- A delivered TIME packet: eligible by the applied preset, in range by its local time, agreeing with the candidate to
within 2 s; an accepted time equal to a SET clock is confirmed, a different one deferred under a current occurrence, and
otherwise applied. The candidate is replaced by every eligible packet in range.
Readings of the model's own: log entry 22. -/
def Obligations.BroadcastTimeJudged : Prop :=
  ∀ (identity : Nat) (utc : DateTime) (offset : Int) (n : Nat) (k : Candidate) (s : State),
    let p := s.presets.getD (n - 1) .factory
    let c := s.clock
    let fits := s.settings.autoClock && p.stored && p.timeSource &&
      (p.identity == none || p.identity == some identity)
    let second := (epochSecond utc : Int) + 900 * offset
    let fresh : Candidate := ⟨epochSecond utc, offset, identity, c.elapsed⟩
    let verdict := fun (v : BroadcastVerdict) => { s with clock := { c with verdict := v } }
    let kept := { s with clock := { c with candidate := some fresh } }
    let agrees := decide (k.identity = identity ∧ c.elapsed ≤ k.elapsed + 360000 ∧
      (600 * ((epochSecond utc : Int) - k.utc) - ((c.elapsed : Int) - k.elapsed)).natAbs ≤ 1200)
    let x := dateTimeOf second.toNat
    (s.tuner.source = .none ∨ s.tuner.source = .search →
      broadcastTime identity utc offset s = verdict .notEligible) ∧
    (s.tuner.source = .preset n →
      (fits = false → broadcastTime identity utc offset s = verdict .notEligible) ∧
      (fits = true → second < 0 ∨ 36525 * 86400 ≤ second →
        broadcastTime identity utc offset s = verdict .outOfRange) ∧
      (fits = true → 0 ≤ second → second < 36525 * 86400 →
        (c.candidate = none ∨ (c.candidate = some k ∧ agrees = false) →
          broadcastTime identity utc offset s = setVerdict .candidate kept) ∧
        (c.candidate = some k → agrees = true →
          (c.set = true → c.now = x → s.engine.current = none →
            broadcastTime identity utc offset s = setVerdict .confirmed kept) ∧
          (c.set = true → c.now = x → s.engine.current ≠ none →
            broadcastTime identity utc offset s =
              setVerdict .confirmed { kept with clock := { kept.clock with correction := none } }) ∧
          (c.set = true → c.now ≠ x → s.engine.current ≠ none →
            broadcastTime identity utc offset s = raise .clock
              (setVerdict .deferred { kept with clock := { kept.clock with
                correction := some (second.toNat - epochSecond c.now : Int) } })) ∧
          (c.set = false ∨ c.now ≠ x → s.engine.current = none →
            broadcastTime identity utc offset s = applyTime x 0 (setVerdict .applied kept)))))


/-! ## The tuner (chapter 5) -/

/-- Frequency and divider: N to the nearest, a half taken upward, 1658..18178 over 44,000..870,000 kHz and refused
elsewhere; the bands begin at 1658, 3978 and 9778. -/
def Obligations.DividerFromFrequency : Prop :=
  ∀ (kHz n : Nat),
    (kHz < 44000 ∨ 870000 < kHz → dividerOf kHz = none) ∧
    (44000 ≤ kHz → kHz ≤ 870000 →
      ∃ d, dividerOf kHz = some d ∧ 1658 ≤ d ∧ d ≤ 18178 ∧ kHz + 38900 + 25 < 50 * (d + 1) ∧ 50 * d ≤ kHz + 38900 + 25 ∧
        ((frequencyOf d : Int) - kHz).natAbs ≤ 25) ∧
    (1658 ≤ n → n ≤ 18178 → frequencyOf n = 50 * n - 38900 ∧ dividerOf (frequencyOf n) = some n) ∧
    (bandOf n = .low ↔ n < 3978) ∧ (bandOf n = .mid ↔ 3978 ≤ n ∧ n ≤ 9777) ∧ (bandOf n = .high ↔ 9778 ≤ n)

/-- SELECT_PRESET: 1..60 direct, 61 the next STORED preset up whose skip flag is off, 62 the next down, each round to the
applied one; BAD_ARG (2) for other arguments, NO_PRESET (16) where none qualifies. The preset is applied by a tuning write,
or, where it is applied already with the same divider, by a correction write that keeps the correction under AFT.
TUNE_STEP by 1..63 steps either way on the applied STORED preset: the record's fine offset moves, saturating at −32 and
+31 with the offset taken as the note, its AFT goes off and its version on; outside a timed recording a correction write
follows the record, under the TIMER holder the tuning stands and is stale. -/
def Obligations.TunerRequestsAct : Prop :=
  (∀ (l : Link) (r : Rank) (arg : Arg) (code : Nat) (s : State), liveIn s.power.state l = true → s.undisturbed →
     WriterLaw s → (s.tuner.source.preset?.all fun m => decide (1 ≤ m ∧ m ≤ 60)) = true →
     let e := effectiveRank s l r
     let record := fun (n : Nat) => s.presets.getD (n - 1) .factory
     let up := match s.tuner.source with
       | .preset a => List.range' (a + 1) (60 - a) ++ List.range' 1 a
       | _ => List.range' 1 60
     let down := match s.tuner.source with
       | .preset a => (List.range' 1 (a - 1)).reverse ++ (List.range' a (61 - a)).reverse
       | _ => (List.range' 1 60).reverse
     let chosen :=
       if arg.toNat = 61 then up.find? fun n => (record n).stored && !(record n).skip
       else if arg.toNat = 62 then down.find? fun n => (record n).stored && !(record n).skip
       else if (record arg.toNat).stored then some arg.toNat else none
     let good := decide (1 ≤ arg.toNat ∧ arg.toNat ≤ 62)
     let n := chosen.getD 0
     let p := record n
     let t := s.tuner
     let again := t.present && t.source == .preset n && t.base == p.divider
     let free := { s with tuner := { t with stale := false } }
     let u := if again then correctedTo p.fine p.aft (if p.aft then t.correction else 0) free
       else tunedTo (.preset n) p.divider p.fine p.aft free
     (tunerRefusal s e false = some code →
       exec (.selectPreset l r arg) s = .next { s with ports := portsAfter s (some (l, refusedWith code)) 0 }) ∧
     (tunerRefusal s e false = none → good = false →
       exec (.selectPreset l r arg) s = .next { s with ports := portsAfter s (some (l, refusedWith 2)) 0 }) ∧
     (tunerRefusal s e false = none → good = true → chosen = none →
       exec (.selectPreset l r arg) s = .next { s with ports := portsAfter s (some (l, refusedWith 16)) 0 }) ∧
     (tunerRefusal s e false = none → good = true → chosen ≠ none → t.search = none →
       (∀ m, t.holder = .search .user m → s.engine.current = none) →
       exec (.selectPreset l r arg) s = .next
         { u with tuner := { u.tuner with holder := viewHolder l e }
                  ports := portsAfter s (some (l, accepted 0))
                    (if again = true ∧ t.holder = viewHolder l e then 0 else 0x00080#18) })) ∧
  (∀ (l : Link) (r : Rank) (arg : Arg) (code n : Nat) (s : State), liveIn s.power.state l = true → s.undisturbed →
     WriterLaw s → s.tuner.search = none →
     let e := effectiveRank s l r
     let k := arg.toInt
     let good := decide (1 ≤ k.natAbs ∧ k.natAbs ≤ 63)
     let p := s.presets.getD (n - 1) .factory
     let fine := max (-32) (min 31 (p.fine + k))
     let q := { p with fine := fine, aft := false }
     let note : Arg := if fine = p.fine + k then 0 else 0x02#8 ++ BitVec.ofInt 16 fine
     let u := presetChanged n q s
     let trimmed := correctedTo fine false 0 { u with tuner := { u.tuner with stale := false } }
     (tunerRefusal s e true = some code →
       exec (.tuneStep l r arg) s = .next { s with ports := portsAfter s (some (l, refusedWith code)) 0 }) ∧
     (tunerRefusal s e true = none → good = false →
       exec (.tuneStep l r arg) s = .next { s with ports := portsAfter s (some (l, refusedWith 2)) 0 }) ∧
     (tunerRefusal s e true = none → good = true →
       s.tuner.source = .none ∨ s.tuner.source = .search ∨ s.tuner.source = .preset n ∧ p.stored = false →
       exec (.tuneStep l r arg) s = .next { s with ports := portsAfter s (some (l, refusedWith 16)) 0 }) ∧
     (tunerRefusal s e true = none → good = true → s.tuner.source = .preset n → 1 ≤ n → n ≤ s.presets.length →
       p.stored = true → p.fine ≠ fine ∨ p.aft = true →
       (s.tuner.holder ≠ .timer → (∀ m, s.tuner.holder = .search .user m → s.engine.current = none) →
         s.tuner.present = true → s.tuner.base = p.divider →
         exec (.tuneStep l r arg) s = .next
           { trimmed with tuner := { trimmed.tuner with holder := viewHolder l e }
                          ports := portsAfter s (some (l, accepted note)) 0x00080#18 }) ∧
       (s.tuner.holder = .timer →
         exec (.tuneStep l r arg) s = .next
           { u with tuner := { u.tuner with stale := true }
                    ports := portsAfter s (some (l, accepted note)) 0x00080#18 })))

/-- SEARCH_STATION (0 up, 1 down) and SEARCH_STORE (a start frequency in kHz): refused by the table of R98, then BAD_ARG (2)
and, for SEARCH_STORE without an EMPTY unnamed preset, FULL (11); accepted, the holder is SEARCH, the source SEARCH, and the
first step is written: 20 units from the applied divider, or at the start divider, with the lock state SETTLING and the
retry unspent (R95).
Readings of the model's own: log entries 19 and 43. -/
def Obligations.StationSearchBegins : Prop :=
  ∀ (l : Link) (r : Rank) (arg : Arg) (code n : Nat) (s : State), liveIn s.power.state l = true → s.undisturbed →
    WriterLaw s →
    let e := effectiveRank s l r
    let t := s.tuner
    let down := decide (arg = 1)
    let start := twentyOn down (if t.present then t.divider else 1658)
    let starting := if t.present then some (⟨t.source, t.base, t.fine, t.aft⟩ : Tuning) else none
    let x : StationSearch :=
      { storing := false, down := down, phase := .leave, divider := start, reading := none, offset := 0, steps := 0,
        stored := 0, firstStored := none, starting := starting, rank := e, link := l }
    let y := { x with storing := true, down := false, phase := .seek, divider := n }
    let held := { s with tuner := { t with holder := .search e l, source := .search, stale := false } }
    let vacancy := s.presets.any fun p => !p.stored && p.name.isEmpty
    let refused := fun (code : Nat) => { s with ports := portsAfter s (some (l, refusedWith code)) 0 }
    (tunerRefusal s e false = some code → exec (.searchStation l r arg) s = .next (refused code)) ∧
    (tunerRefusal s e false = some code → exec (.searchStore l r arg) s = .next (refused code)) ∧
    (tunerRefusal s e false = none → arg ≠ 0 → arg ≠ 1 → exec (.searchStation l r arg) s = .next (refused 2)) ∧
    (tunerRefusal s e false = none → dividerOf arg.toNat = none → exec (.searchStore l r arg) s = .next (refused 2)) ∧
    (tunerRefusal s e false = none → dividerOf arg.toNat = some n → vacancy = false →
      exec (.searchStore l r arg) s = .next (refused 11)) ∧
    (tunerRefusal s e false = none → arg = 0 ∨ arg = 1 → t.search = none →
      exec (.searchStation l r arg) s = .next
        { tuningReported false (steppedTo start x held) with
          ports := portsAfter s (some (l, accepted 0)) 0x00080#18 }) ∧
    (tunerRefusal s e false = none → dividerOf arg.toNat = some n → vacancy = true → t.search = none →
      exec (.searchStore l r arg) s = .next
        { tuningReported false (steppedTo n y held) with
          ports := portsAfter s (some (l, accepted 0)) 0x00080#18 })

/-- The end of a search step, with sync when both lines are present: LEAVE moves on 20 units with sync and turns to SEEK
without; SEEK moves on without sync and centres with it; CENTRE moves by one unit while the AFT reading stays. Each
step is a tuning write toward the module: SETTLING, the retry unspent, nothing raised (R95). A found
divider ends a STATION search FOUND; a STORE search, which no count of steps ends, puts a found divider that is no duplicate
into the lowest EMPTY unnamed preset and goes on.
A STATION search whose 826th step, in whatever phase, finds nothing ends NOT_FOUND: the step is written, the starting tuning
is then written again, with its preset's record where that is STORED, and the holder is the view of the search's rank.
A SEARCH_STORE passes over a duplicate, ends FULL where no EMPTY unnamed preset is left, and ends EXHAUSTED at the top of
the range; the tuning is then the first preset stored, else the starting tuning, else none. Centring that the end of the
range stops has found its divider.
ABORTED by an accepted SELECT_PRESET and by main power leaving ON at mains loss: the ending at the step divider, and the
preset applied or the lock state OFF. (The other requests, POWER OFF and the engine's take: PowerRequested and
OccurrenceComesDueAndStarts.)
Readings of the model's own: log entries 19, 20 and 43. -/
def Obligations.SearchStepsTaken : Prop :=
  (∀ (sync lock : Bool) (aft : AftLine) (x : StationSearch) (m : Nat) (s : State), s.power.state = .on → s.undisturbed →
     WriterLaw s → s.tuner.search = some x → 1658 ≤ x.divider → x.divider ≤ 18178 →
     let both := sync && lock
     let u := { s with pins := { s.pins with synthLock := lock } }
     let y := { x with steps := min (x.steps + 1) 826 }
     let goesOn := x.storing = true ∨ x.steps < 825
     let top := x.storing && decide (18158 < x.divider)
     let next := twentyOn x.down x.divider
     let sign := fun (a : AftLine) => if a = .high then (-1 : Int) else 1
     let inRange := fun (z : Int) => decide (1658 ≤ z) && decide (z ≤ 18178)
     let at_ := (x.divider : Int) + x.offset
     let moved := fun (phase : StationPhase) (d : Nat) =>
       { steppedTo d { y with phase := phase, divider := d, reading := none, offset := 0 } u with
         ports := portsAfter s none 0 }
     let centred := fun (a : AftLine) (offset : Int) =>
       { steppedTo ((x.divider : Int) + offset).toNat
           { y with phase := .centre, reading := some a, offset := offset } u with
         ports := portsAfter s none 0 }
     let ended := fun (o : StationOutcome) (d : Nat) =>
       { u with tuner := { s.tuner with search := none, lastEnding := some ⟨false, o, 0, d⟩ } }
     let found := tunedTo .search at_.toNat 0 true (ended .found at_.toNat)
     let duplicate := s.presets.any fun p => p.stored && decide (((p.divider : Int) - at_).natAbs ≤ 20)
     let vacant := fun (p : Preset) => !p.stored && p.name.isEmpty
     let kept := presetChanged m { Preset.factory with stored := true, divider := at_.toNat } u
     let onward := (at_ + 20).toNat
     (goesOn → x.down = false ∨ x.storing = false →
       (x.phase = .leave → both = true → top = false → exec (.searchStepEnd sync lock aft) s = .next (moved .leave next)) ∧
       (x.phase = .leave → both = false → exec (.searchStepEnd sync lock aft) s = .next (moved .seek x.divider)) ∧
       (x.phase = .seek → both = false → top = false → exec (.searchStepEnd sync lock aft) s = .next (moved .seek next))) ∧
     (goesOn → x.phase = .seek → both = true → inRange (x.divider + sign aft) = true →
       exec (.searchStepEnd sync lock aft) s = .next (centred aft (sign aft))) ∧
     (goesOn → x.phase = .centre → x.reading = some aft → x.offset.natAbs < 16 → inRange (at_ + sign aft) = true →
       exec (.searchStepEnd sync lock aft) s = .next (centred aft (x.offset + sign aft))) ∧
     (x.phase = .centre → x.reading ≠ none → x.reading ≠ some aft ∨ 16 ≤ x.offset.natAbs → inRange at_ = true →
       x.storing = false → s.quiet →
       exec (.searchStepEnd sync lock aft) s = .next
         { found with tuner := { found.tuner with holder := viewHolder x.link x.rank }
                      ports := portsAfter s none 0x00180#18 }) ∧
     (x.phase = .centre → x.reading ≠ none → x.reading ≠ some aft ∨ 16 ≤ x.offset.natAbs → inRange at_ = true →
       x.storing = true → x.down = false → duplicate = false → s.presets.findIdx? vacant = some (m - 1) → 1 ≤ m →
       (s.presets.drop m).any vacant = true → at_ + 20 ≤ 18178 → s.tuner.source = .search →
       exec (.searchStepEnd sync lock aft) s = .next
         { steppedTo onward
             { y with phase := .leave, divider := onward, reading := none, offset := 0, stored := x.stored + 1,
                      firstStored := if x.firstStored = none then some m else x.firstStored } kept with
           ports := portsAfter s none 0x00080#18 })) ∧
  (∀ (sync lock : Bool) (aft : AftLine) (x : StationSearch) (n base d written : Nat) (fine : Int) (a : Bool) (s : State),
     s.power.state = .on → s.quiet → WriterLaw s → s.tuner.search = some x → x.storing = false → x.firstStored = none →
     825 ≤ x.steps → 1658 ≤ x.divider → x.divider ≤ 18178 →
     let both := sync && lock
     let sign : Int := if aft = .high then -1 else 1
     let inRange := fun (z : Int) => 1658 ≤ z ∧ z ≤ 18178
     let next := twentyOn x.down x.divider
     let at_ := (x.divider : Int) + x.offset
     let moves := (x.phase = .leave ∧ both = true ∨ x.phase = .seek ∧ both = false) ∧ d = next ∧ written = next
     let turns := x.phase = .leave ∧ both = false ∧ d = x.divider ∧ written = x.divider
     let begins := x.phase = .seek ∧ both = true ∧ inRange (x.divider + sign) ∧ d = x.divider ∧
       (written : Int) = x.divider + sign
     let centres := x.phase = .centre ∧ x.reading = some aft ∧ x.offset.natAbs < 16 ∧ inRange (at_ + sign) ∧
       d = x.divider ∧ (written : Int) = at_ + sign
     moves ∨ turns ∨ begins ∨ centres →
     let p := s.presets.getD (n - 1) .factory
     let u := steppedTo written x { s with pins := { s.pins with synthLock := lock } }
     let ended := { u with tuner := { u.tuner with search := none, lastEnding := some ⟨false, .notFound, 0, d⟩ } }
     let take := exec (.searchStepEnd sync lock aft) s
     let finished := fun (v : State) =>
       { v with tuner := { v.tuner with holder := viewHolder x.link x.rank }, ports := portsAfter s none 0x00180#18 }
     let gone := tuningReported false
       { ended with tuner := { ended.tuner with source := .none, present := false, lock := .off } }
     (x.starting = some ⟨.preset n, base, fine, a⟩ → p.stored = true →
       take = .next (finished (tunedTo (.preset n) p.divider p.fine p.aft ended))) ∧
     (x.starting = some ⟨.preset n, base, fine, a⟩ → p.stored = false →
       take = .next (finished (tunedTo .none base fine a ended))) ∧
     (x.starting = some ⟨.search, base, fine, a⟩ →
       take = .next (finished (tunedTo .search base fine a ended))) ∧
     (x.starting = some ⟨.none, base, fine, a⟩ →
       take = .next (finished (tunedTo .none base fine a ended))) ∧
     (x.starting = none → take = .next (finished gone))) ∧
  (∀ (sync lock : Bool) (aft : AftLine) (x : StationSearch) (m : Nat) (s : State), s.power.state = .on → s.quiet →
     WriterLaw s → s.tuner.search = some x → 1658 ≤ x.divider → x.divider ≤ 18178 → x.down = false →
     s.tuner.source = .search →
     let both := sync && lock
     let u := { s with pins := { s.pins with synthLock := lock } }
     let y := { x with steps := min (x.steps + 1) 826 }
     let sign := if (x.reading.getD aft) = AftLine.high then (-1 : Int) else 1
     let offset := if x.phase = .centre then x.offset else 0
     let at_ := (x.divider : Int) + offset
     let onward := (at_ + 20).toNat
     let inRange := fun (z : Int) => 1658 ≤ z ∧ z ≤ 18178
     let edge := ¬ inRange (at_ + sign)
     let duplicate := s.presets.any fun p => p.stored && decide (((p.divider : Int) - at_).natAbs ≤ 20)
     let vacant := fun (p : Preset) => !p.stored && p.name.isEmpty
     let kept := presetChanged m { Preset.factory with stored := true, divider := at_.toNat } u
     let stored := x.stored + 1
     let first := if x.firstStored = none then some m else x.firstStored
     let view := fun (ks : KindSet) (v : State) =>
       { v with tuner := { v.tuner with holder := viewHolder x.link x.rank }, ports := portsAfter s none ks }
     let back := fun (first : Option Nat) (o : StationOutcome) (count d : Nat) (v : State) =>
       let v := { v with tuner := { v.tuner with search := none, lastEnding := some ⟨true, o, count, d⟩ } }
       let record := fun (n : Nat) => v.presets.getD (n - 1) .factory
       let again := fun (n : Nat) => tunedTo (.preset n) (record n).divider (record n).fine (record n).aft v
       view 0x00180#18 (match first.filter fun n => (record n).stored, x.starting with
         | some n, _ => again n
         | none, some ⟨.preset n, base, fine, a⟩ => if (record n).stored then again n else tunedTo .none base fine a v
         | none, some ⟨source, base, fine, a⟩ => tunedTo source base fine a v
         | none, none => tuningReported false { v with
             tuner := { v.tuner with source := .none, present := false, lock := .off } })
     let centred := x.phase = .centre ∧ x.reading ≠ none ∧ (x.reading ≠ some aft ∨ 16 ≤ x.offset.natAbs ∨ edge) ∨
       x.phase = .seek ∧ both = true ∧ x.reading = none ∧ edge
     (x.storing = true → x.phase = .leave ∧ both = true ∨ x.phase = .seek ∧ both = false → 18158 < x.divider →
       exec (.searchStepEnd sync lock aft) s = .next (back x.firstStored .exhausted x.stored x.divider u)) ∧
     (x.storing = true → centred → inRange at_ → duplicate = true →
       exec (.searchStepEnd sync lock aft) s = .next
         (if at_ + 20 ≤ 18178 then
           { steppedTo onward { y with phase := .leave, divider := onward, reading := none, offset := 0 } u with
             ports := portsAfter s none 0 }
         else back x.firstStored .exhausted x.stored at_.toNat u)) ∧
     (x.storing = true → centred → inRange at_ → duplicate = false → s.presets.findIdx? vacant = some (m - 1) → 1 ≤ m →
       ((s.presets.drop m).any vacant = false →
         exec (.searchStepEnd sync lock aft) s = .next (back first .full stored at_.toNat kept)) ∧
       ((s.presets.drop m).any vacant = true → 18178 < at_ + 20 →
         exec (.searchStepEnd sync lock aft) s = .next (back first .exhausted stored at_.toNat kept))) ∧
     (x.storing = false → centred → inRange at_ →
       exec (.searchStepEnd sync lock aft) s = .next
         (view 0x00180#18 (tunedTo .search at_.toNat 0 true
           { u with tuner := { s.tuner with search := none, lastEnding := some ⟨false, .found, 0, at_.toNat⟩ } })))) ∧
  (∀ (l : Link) (r : Rank) (arg : Arg) (x : StationSearch) (s : State), s.power.state = .on → s.quiet → WriterLaw s →
     s.tuner.search = some x → s.tuner.source = .search →
     let e := effectiveRank s l r
     let p := s.presets.getD (arg.toNat - 1) .factory
     let ending : StationEnding := ⟨x.storing, .aborted, if x.storing then x.stored else 0, x.divider⟩
     let selected := tunedTo (.preset arg.toNat) p.divider p.fine p.aft
       { s with tuner := { s.tuner with search := none, lastEnding := some ending, stale := false } }
     (tunerRefusal s e false = none → 1 ≤ arg.toNat → arg.toNat ≤ 60 → p.stored = true →
       exec (.selectPreset l r arg) s = .next
         { selected with tuner := { selected.tuner with holder := viewHolder l e }
                         ports := portsAfter s (some (l, accepted 0)) 0x00180#18 }) ∧
     (∃ t, exec .mainsLoss s = .next t ∧ t.power.state = .hold ∧ t.tuner.search = none ∧
       t.tuner.lastEnding = some ending ∧ t.tuner.lock = .off))

/-- Lock supervision with main power ON and no search: the lock line leads SETTLING and LOST to LOCKED and LOCKED to LOST;
50 ms without lock lead to LOST; an AFT window writes once more after a loss, and else steps the correction by the AFT line
while LOCKED with AFT on, saturating at −8 and +8 with AFT_LIMIT (bit 17) where it reaches a bound.
Readings of the model's own: log entry 18. -/
def Obligations.LockSupervised : Prop :=
  ∀ (present : Bool) (line : AftLine) (s : State), s.power.state = .on → WriterLaw s → s.tuner.search = none →
    s.receiver.live = (s.tuner.lock == .locked) →
    let t := s.tuner
    let led := fun (x : LockState) (u : State) =>
      { u with tuner := { u.tuner with lock := x }, receiver := receiverTold (x == .locked) u.receiver
               ports := portsAfter s none (if x = .lost ∨ t.lock = .lost then 0x00080#18 else 0) }
    let u := { s with pins := { s.pins with synthLock := present } }
    let again := { s with tuner := { t with retrySpent := true }
                          outputs := { s.outputs with tunerWord := some t.divider } }
    let c := max (-8) (min 8 (if line = .high then t.correction - 1 else t.correction + 1))
    (exec (.synthLockChange present) s = .next
      (match t.lock, present with
        | .settling, true | .lost, true => led .locked u
        | .locked, false => led .lost u
        | _, _ => { u with ports := portsAfter s none 0 })) ∧
    (t.lock = .settling → s.pins.synthLock = false → exec .settlingTimeout s = .next (led .lost s)) ∧
    (t.lock ≠ .settling → exec .settlingTimeout s = .next { s with ports := portsAfter s none 0 }) ∧
    (t.lock = .lost → t.retrySpent = false → exec (.aftWindow line) s = .next (led .settling again)) ∧
    (t.lock = .lost → t.retrySpent = true → exec (.aftWindow line) s = .next { s with ports := portsAfter s none 0 }) ∧
    (t.lock = .locked → t.present = true → t.aft = true → c ≠ t.correction →
      exec (.aftWindow line) s = .next
        { correctedTo t.fine true c s with
          ports := portsAfter s none (if c = 8 ∨ c = -8 then 0x20000#18 else 0) }) ∧
    (t.lock = .settling ∨ t.lock = .off ∨ t.lock = .locked ∧ (t.present = false ∨ t.aft = false ∨ c = t.correction) →
      exec (.aftWindow line) s = .next { s with ports := portsAfter s none 0 })

/-- The preset work record: the fields of R110 by number, each refused BAD_ARG (2) out of range; capture of the applied
divider with main power ON and a tuning applied, else WRONG_STATE (6). Only the link's own record changes, and the reply
echoes the field over the value taken.
FETCH_PRESET copies the preset of its number into the link's work record; STORE_PRESET writes the record back, refused
NOT_ON (15), WRONG_STATE (6) without a fetch and STALE (10) where the version has moved; a change advances the version, and
the applied preset follows it as R101 gives: by a correction write, or under the TIMER holder by going stale. That
FETCH_PRESET answers BAD_ARG (2) before NOT_ON is the model's order (log entry 37). -/
def Obligations.PresetWorkRecordActs : Prop :=
  (∀ (l : Link) (r : Rank) (field : Selector) (value : Value) (s : State), liveIn s.power.state l = true → WriterLaw s →
     let w := (s.port l).presetWork
     let p := w.record
     let v := value.toNat
     let at_ := v / 128
     let code := v % 128
     let named := fun (name : List Nat) => some ({ p with name := name }, v)
     let written : Option (Preset × Nat) := match field.toNat with
       | 0 => if v ≤ 1 then some ({ p with stored := v == 1 }, v) else none
       | 1 => if 1658 ≤ v ∧ v ≤ 18178 then some ({ p with divider := v, stored := true }, v) else none
       | 2 =>
         let n := (v + 38925) / 50
         if 44000 ≤ v ∧ v ≤ 870000 then some ({ p with divider := n, stored := true }, n) else none
       | 3 => if -32 ≤ value.toInt ∧ value.toInt ≤ 31 then some ({ p with fine := value.toInt }, v) else none
       | 4 => if v ≤ 1 then some ({ p with aft := v == 1 }, v) else none
       | 5 => if v ≤ 1 then some ({ p with skip := v == 1 }, v) else none
       | 6 =>
         if 4 < at_ ∨ p.name.length < at_ then none
         else if code = 0 then named (p.name.take at_)
         else if code < 32 ∨ 95 < code then none
         else if at_ < p.name.length then named (p.name.set at_ code)
         else named (p.name ++ [code])
       | 7 => if v ≤ 4096 then some ({ p with identity := if v = 4096 then none else some v }, v) else none
       | 8 => if v ≤ 1 then some ({ p with timeSource := v == 1 }, v) else none
       | _ => none
     let stored := fun (q : Preset) (taken : Nat) =>
       { s with
         ports := portsAfter (s.modPort l fun x => { x with presetWork := { w with record := q } })
           (some (l, accepted (field ++ BitVec.ofNat 20 taken))) 0 }
     (field ≠ 9 →
       exec (.writePresetWorkRecordField l r field value) s = .next
         (match written with
           | some (q, taken) => stored q taken
           | none => { s with ports := portsAfter s (some (l, refusedWith 2)) 0 })) ∧
     (field = 9 →
       exec (.capture l r value) s = .next
         (if s.power.state = .on ∧ s.tuner.present = true then
           stored { p with divider := s.tuner.divider, fine := 0, stored := true } v
         else { s with ports := portsAfter s (some (l, refusedWith 6)) 0 }))) ∧
  (∀ (l : Link) (r : Rank) (arg : Arg) (n : Nat) (s : State), liveIn s.power.state l = true → WriterLaw s →
     let refused := fun (code : Nat) => { s with ports := portsAfter s (some (l, refusedWith code)) 0 }
     let on := s.power.state == .on
     let w := (s.port l).presetWork
     let p := s.presets.getD (n - 1) .factory
     let q := { if w.record.stored then w.record else { Preset.factory with name := w.record.name } with
       version := p.version }
     let fresh := { w with version := (p.version + 1) % 256 }
     let t := s.tuner
     let u := presetChanged n q s
     let done := fun (v : State) =>
       { v with ports := portsAfter (s.modPort l fun x => { x with presetWork := fresh }) (some (l, accepted 0)) 0x00080#18 }
     let tunes := p.stored != q.stored || p.divider != q.divider || p.fine != q.fine || p.aft != q.aft
     (exec (.fetchPreset l r arg) s = .next
       (if arg.toNat < 1 ∨ 60 < arg.toNat then refused 2
       else if on = false then refused 15
       else
         let x := s.presets.getD (arg.toNat - 1) .factory
         { s with
           ports := portsAfter
             (s.modPort l fun y => { y with presetWork := ⟨true, some arg.toNat, x.version, { x with version := 0 }⟩ })
             (some (l, accepted 0)) 0 })) ∧
     (on = false → exec (.storePreset l r arg) s = .next (refused 15)) ∧
     (on = true → w.fetched = false → exec (.storePreset l r arg) s = .next (refused 6)) ∧
     (on = true → w.fetched = true → w.number = some n → p.version ≠ w.version →
       exec (.storePreset l r arg) s = .next (refused 10)) ∧
     (on = true → w.fetched = true → w.number = some n → p.version = w.version → q = p →
       exec (.storePreset l r arg) s = .next { s with ports := portsAfter s (some (l, accepted 0)) 0 }) ∧
     (on = true → w.fetched = true → w.number = some n → p.version = w.version → q ≠ p → 1 ≤ n →
       n ≤ s.presets.length →
       (t.source ≠ .preset n ∨ tunes = false → exec (.storePreset l r arg) s = .next (done u)) ∧
       (t.source = .preset n → tunes = true → t.holder = .timer →
         exec (.storePreset l r arg) s = .next (done { u with tuner := { u.tuner with stale := true } })) ∧
       (t.source = .preset n → tunes = true → t.holder ≠ .timer → q.stored = true → t.present = true →
         t.base = q.divider →
         exec (.storePreset l r arg) s = .next
           (done (correctedTo q.fine q.aft (if q.aft then t.correction else 0)
             { u with tuner := { u.tuner with stale := false } }))) ∧
       (t.source = .preset n → tunes = true → t.holder ≠ .timer → q.stored = true → t.base ≠ q.divider →
         t.search = none →
         exec (.storePreset l r arg) s = .next
           (done (tunedTo (.preset n) q.divider q.fine q.aft { u with tuner := { u.tuner with stale := false } }))) ∧
       (t.source = .preset n → tunes = true → t.holder ≠ .timer → q.stored = false →
         exec (.storePreset l r arg) s = .next
           (done (tuningReported (t.lock == .locked && t.search.isNone)
             { u with tuner := { u.tuner with source := .none, stale := false } })))))

/-! ## Label reception (chapter 6) -/

/-- A byte before and around a packet: an idle receiver takes none; in SEEK_IDLE it restarts the quiet wait; in SEEK_START
only 0xA7 with good parity begins a packet; the length is 1 to 12; a parity error, a bad length, an unknown kind and a
length wrong for the kind end the packet; other content bytes join it. The quiet timer leads to SEEK_START, the gap timer
ends a packet TIMEOUT. -/
def Obligations.BytesCollected : Prop :=
  ∀ (b : SlicerByte) (good : Bool) (c : Collecting) (n : Nat) (s : State), s.undisturbed → WriterLaw s →
    let r := s.receiver
    let became := fun (x : Receiver) => Host.Outcome.next { s with receiver := x, ports := portsAfter s none 0 }
    let ended := fun (why : Termination) => became
      { r with state := .seekIdle, gapTimer := false, collecting := none, lastReason := why, quietTimer := true }
    let take := exec (.dataSlicerByte b good) s
    (r.live = false → take = became r) ∧
    (r.live = true →
      (r.state = .seekIdle → take = became { r with quietTimer := true }) ∧
      (r.state = .seekStart → good = true → b = 0xA7#8 →
        take = became
          { r with state := .collectLength, collecting := some ⟨none, []⟩, gapTimer := true, quietTimer := false }) ∧
      (r.state = .seekStart → good = false ∨ b ≠ 0xA7#8 →
        take = became { r with state := .seekIdle, quietTimer := true }) ∧
      (r.state = .collectLength → good = true → 1 ≤ b.toNat → b.toNat ≤ 12 →
        take = became { r with state := .collect, collecting := some ⟨some b.toNat, []⟩, gapTimer := true }) ∧
      (r.state = .collectLength → good = true → b.toNat < 1 ∨ 12 < b.toNat → take = ended .overlong) ∧
      (r.state = .collectLength ∨ r.state = .collect → good = false → take = ended .parity) ∧
      (r.state = .collect → good = true → r.collecting = some ⟨some n, []⟩ →
        (b ≠ 0x3C#8 → b ≠ 0x5A#8 → take = ended .unknownKind) ∧
        (b = 0x3C#8 ∧ n ≠ 7 ∨ b = 0x5A#8 ∧ n ≠ 10 → take = ended .badContent) ∧
        (b = 0x3C#8 ∧ n = 7 ∨ b = 0x5A#8 ∧ n = 10 →
          take = became { r with collecting := some ⟨some n, [b]⟩, gapTimer := true })) ∧
      (r.state = .collect → good = true → r.collecting = some c → c.bytes ≠ [] → c.length = some n →
        c.bytes.length + 1 ≠ n →
        take = became { r with collecting := some { c with bytes := c.bytes ++ [b] }, gapTimer := true }) ∧
      (r.state = .seekIdle → r.quietTimer = true →
        exec .quietTimerExpiry s = became { r with state := .seekStart, quietTimer := false }) ∧
      (r.state = .collectLength ∨ r.state = .collect → r.gapTimer = true → exec .gapTimerExpiry s = ended .timeout))

/-- The last byte of a packet. PROG: with every field in range it ends COMPLETE, an applied STORED preset without an identity
learns the channel's, and the packet joins the label queue with LABEL (bit 9) unless it repeats the last queued; a full queue
of four loses its oldest. TIME, with *auto clock* off, is judged NOT_ELIGIBLE and offered likewise. A field out of range
ends the packet BAD_CONTENT.
The last byte of a TIME packet with every field in range, an occurrence in progress or not. An applied STORED preset
without an identity, not stale, first learns the channel's. Then the time is judged: NOT_ELIGIBLE, OUT_OF_RANGE, CANDIDATE,
CONFIRMED, DEFERRED under a current occurrence with CLOCK raised (bit 6), and with none APPLIED, at once with the schedule
taken again in another minute, the windows that a step forward has passed judged MISSED(CLOCK_STEP). The packet joins the
label queue with LABEL (bit 9) unless it repeats the last queued.
Readings of the model's own: log entries 11 and 22. -/
def Obligations.PacketsDelivered : Prop :=
  (∀ (b2 b3 b4 b5 b6 b7 b8 b9 last : SlicerByte) (n : Nat) (s : State), s.power.state = .on → s.undisturbed → WriterLaw s →
     s.receiver.live = true → s.receiver.state = .collect → 1 ≤ n → n ≤ s.presets.length →
     let r := s.receiver
     let identity := 16 * b2.toNat + b3.toNat / 16
     let status : ProgStatus := match b3.toNat % 4 with
       | 0 => .running
       | 1 => .paused
       | 2 => .pending
       | _ => .ended
     let longest := if b5.toNat = 2 then 29 else if b5.toNat ∈ [4, 6, 9, 11] then 30 else 31
     let prog := r.collecting = some ⟨some 7, [0x3C#8, b2, b3, b4, b5, b6]⟩
     let progGood := decide (1 ≤ b5.toNat ∧ b5.toNat ≤ 12 ∧ 1 ≤ b4.toNat ∧ b4.toNat ≤ longest ∧ b6.toNat ≤ 23 ∧
       last.toNat ≤ 59)
     let time := r.collecting = some ⟨some 10, [0x5A#8, b2, b3, b4, b5, b6, b7, b8, b9]⟩
     let date : Date := ⟨1990 + b4.toNat, b5.toNat, b6.toNat⟩
     let timeGood := decide (b4.toNat ≤ 99 ∧ 1 ≤ b5.toNat ∧ b5.toNat ≤ 12 ∧ 1 ≤ b6.toNat ∧
       b6.toNat ≤ monthLength date.year date.month ∧ b7.toNat ≤ 23 ∧ b8.toNat ≤ 59 ∧ b9.toNat ≤ 59 ∧
       -48 ≤ last.toInt ∧ last.toInt ≤ 56)
     let p := Packet.prog identity b4.toNat b5.toNat b6.toNat last.toNat status
     let q := Packet.time identity ⟨date, ⟨b7.toNat, b8.toNat, b9.toNat⟩⟩ last.toInt
     let ended := fun (why : Termination) =>
       { r with state := .seekIdle, gapTimer := false, collecting := none, lastReason := why, quietTimer := true }
     let queued := fun (x : Packet) =>
       if r.lastQueued = some x then ended .complete
       else { ended .complete with
         labels := (r.labels ++ [x]).drop (r.labels.length + 1 - 4), lastQueued := some x }
     let ks := fun (x : Packet) => if r.lastQueued = some x then 0 else 0x00200#18
     let bad := { s with receiver := ended .badContent, ports := portsAfter s none 0 }
     let record := s.presets.getD (n - 1) .factory
     let open_ := record.stored && !s.tuner.stale && record.identity.isNone
     let learnt := presetChanged n { record with identity := some identity } s
     let take := exec (.dataSlicerByte last true) s
     (prog ∧ progGood = false ∨ time ∧ timeGood = false → take = .next bad) ∧
     (prog → progGood = true → s.quiet → s.tuner.source = .search ∨ s.tuner.source = .none ∨
         s.tuner.source = .preset n ∧ open_ = false →
       take = .next { s with receiver := queued p, ports := portsAfter s none (ks p) }) ∧
     (prog → progGood = true → s.quiet → s.tuner.source = .preset n → open_ = true →
       take = .next { learnt with receiver := queued p, ports := portsAfter s none (ks p ||| 0x00080#18) }) ∧
     (time → timeGood = true → s.settings.autoClock = false →
       s.tuner.source = .search ∨ s.tuner.source = .none ∨ s.tuner.source = .preset n ∧ open_ = false →
       take = .next { s with clock := { s.clock with verdict := .notEligible }
                             receiver := queued q
                             ports := portsAfter s none (ks q) })) ∧
  (∀ (b2 b3 b4 b5 b6 b7 b8 b9 last : SlicerByte) (n : Nat) (k : Candidate) (s : State), s.power.state = .on →
     s.undisturbed → WriterLaw s → s.receiver.live = true → s.receiver.state = .collect → 1 ≤ n → n ≤ s.presets.length →
     s.receiver.collecting = some ⟨some 10, [0x5A#8, b2, b3, b4, b5, b6, b7, b8, b9]⟩ →
     let r := s.receiver
     let c := s.clock
     let identity := 16 * b2.toNat + b3.toNat / 16
     let date : Date := ⟨1990 + b4.toNat, b5.toNat, b6.toNat⟩
     let utc : DateTime := ⟨date, ⟨b7.toNat, b8.toNat, b9.toNat⟩⟩
     let offset := last.toInt
     b4.toNat ≤ 99 → 1 ≤ b5.toNat → b5.toNat ≤ 12 → 1 ≤ b6.toNat → b6.toNat ≤ monthLength date.year date.month →
     b7.toNat ≤ 23 → b8.toNat ≤ 59 → b9.toNat ≤ 59 → -48 ≤ offset → offset ≤ 56 →
     let q := Packet.time identity utc offset
     let ended := { r with state := .seekIdle, gapTimer := false, collecting := none, lastReason := .complete
                           quietTimer := true }
     let queued := if r.lastQueued = some q then ended
       else { ended with labels := (r.labels ++ [q]).drop (r.labels.length + 1 - 4), lastQueued := some q }
     let label : KindSet := if r.lastQueued = some q then 0 else 0x00200#18
     let record := s.presets.getD (n - 1) .factory
     let learns := record.stored && !s.tuner.stale && record.identity.isNone
     let base := if learns then presetChanged n { record with identity := some identity } s else s
     let learning : KindSet := if learns then 0x00080#18 else 0
     let fits := s.settings.autoClock && record.stored && record.timeSource &&
       (record.identity == none || record.identity == some identity)
     let second := (epochSecond utc : Int) + 900 * offset
     let agrees := decide (k.identity = identity ∧ c.elapsed ≤ k.elapsed + 360000 ∧
       (600 * ((epochSecond utc : Int) - k.utc) - ((c.elapsed : Int) - k.elapsed)).natAbs ≤ 1200)
     let kept := { c with candidate := some ⟨epochSecond utc, offset, identity, c.elapsed⟩ }
     let x := dateTimeOf second.toNat
     let u := { base with clock := { kept with now := x, subSecond := 0, set := true, verdict := .applied } }
     let take := exec (.dataSlicerByte last true) s
     let answer := fun (v : State) (ks : KindSet) =>
       { v with receiver := queued, ports := portsAfter s none (label ||| ks) }
     (s.tuner.source = .none ∨ s.tuner.source = .search →
       take = .next (answer { s with clock := { c with verdict := .notEligible } } 0)) ∧
     (s.tuner.source = .preset n →
       (fits = false →
         take = .next (answer { base with clock := { c with verdict := .notEligible } } learning)) ∧
       (fits = true → second < 0 ∨ 36525 * 86400 ≤ second →
         take = .next (answer { base with clock := { c with verdict := .outOfRange } } learning)) ∧
       (fits = true → 0 ≤ second → second < 36525 * 86400 →
         (c.candidate = none ∨ c.candidate = some k ∧ agrees = false →
           take = .next (answer { base with clock := { kept with verdict := .candidate } } learning)) ∧
         (c.candidate = some k → agrees = true →
           (c.set = true → c.now = x →
             take = .next (answer
               { base with clock := { kept with
                   verdict := .confirmed
                   correction := if s.engine.current = none then c.correction else none } } learning)) ∧
           (c.set = true → c.now ≠ x → s.engine.current ≠ none →
             take = .next (answer
               { base with clock := { kept with
                   verdict := .deferred, correction := some (second.toNat - epochSecond c.now : Int) } }
               (learning ||| 0x00040#18))) ∧
           (c.set = false ∨ c.now ≠ x → u.now = s.now →
             c.set = false ∨ s.engine.current = none → take = .next (answer u (learning ||| 0x00040#18))) ∧
           (c.set = false ∨ c.now ≠ x → s.engine.current = none →
             (u.now < s.now → s.noneStoppedBy u.now → u.calm →
               take = .next (answer (rescheduled u) (learning ||| 0x00040#18 ||| flagKinds u))) ∧
             (s.now < u.now → s.passedInUse u.now → (judgedPassed .clockStep u).calm →
               take = .next (answer (stepTaken u)
                 (learning ||| 0x00040#18 ||| missedKinds .clockStep u ||| flagKinds u))))))))

/-! ## The event table (chapter 7) -/

/-- The window of an occurrence runs from the start minute of its date to the stop minute, the next day's where that is
earlier, so it lasts 1 to 1439 minutes; an occurrence that would stop beyond the last epoch minute does not exist, and
within the range only one of 2089-12-31 that crosses midnight would. -/
def Obligations.WindowOfOccurrence : Prop :=
  ∀ (e : EventDef) (d : Date), e.start < 1440 → e.stop < 1440 → e.start ≠ e.stop → d.valid = true →
    e.startOn (dayNumber d) = dayNumber d * 1440 + e.start ∧
    (e.start < e.stop → e.stopOn (dayNumber d) = dayNumber d * 1440 + e.stop) ∧
    (e.stop < e.start → e.stopOn (dayNumber d) = (dayNumber d + 1) * 1440 + e.stop) ∧
    1 ≤ e.stopOn (dayNumber d) - e.startOn (dayNumber d) ∧ e.stopOn (dayNumber d) - e.startOn (dayNumber d) ≤ 1439 ∧
    (e.existsOn (dayNumber d) = true ↔ e.stopOn (dayNumber d) ≤ 52595999) ∧
    (e.existsOn (dayNumber d) = false ↔ d = ⟨2089, 12, 31⟩ ∧ e.stop < e.start)

/-- The next occurrence of a definition is the one on the earliest candidate date later than the last served that exists and
whose stop lies ahead; there is none where no date does.
With the mode ON and the clock SET the due list holds, for each slot in use and enabled, the window of its next
occurrence, a current one's own date passed over, and stands by start, then user before automatic rank, then slot; else it
is empty.
The conflict flags: on exactly for a slot one of whose occurrences within seven days, each starting before the other
stops, meets one of another slot's; an occurrence later than the last served, or the current one, counts until it stops. -/
def Obligations.ScheduleTaken : Prop :=
  (∀ (e : EventDef) (served : Option Nat) (now : Nat), e.start < 1440 → e.stop < 1440 →
     let serves := fun (day : Nat) =>
       holdsOccurrence e day = true ∧ (∀ x, served = some x → x < day) ∧ now < stopInstant e day
     (∀ day, e.nextDay served now = some day ↔ serves day ∧ ∀ k, k < day → ¬ serves k) ∧
     (e.nextDay served now = none ↔ ∀ day, ¬ serves day)) ∧
  (∀ s : State,
     let holds := fun (e : DueEntry) =>
       ∃ x, s.slots[e.slot]? = some x ∧ x.inUse = true ∧ x.defn.enabled = true ∧
         x.defn.nextDay x.lastServed s.now = some e.day ∧ e.start = x.defn.startOn e.day ∧ e.stop = x.defn.stopOn e.day ∧
         e.rank = (match x.owner with
           | some o => o.2
           | none => .automatic) ∧
         ∀ o, s.engine.current = some o → o.slot = e.slot → o.orphan = false → o.day < e.day
     (s.engine.mode = true → s.clock.set = true → ∀ e, e ∈ dueListOf s ↔ holds e) ∧
     (dueListOf s).Pairwise (fun a b => a.start < b.start ∨ a.start = b.start ∧
       (a.rank = .user ∧ b.rank = .automatic ∨ a.rank = b.rank ∧ a.slot < b.slot)) ∧
     (s.engine.mode = false ∨ s.clock.set = false → dueListOf s = [])) ∧
  (∀ (s : State) (i : Nat) (x : Slot), s.slots[i]? = some x →
     (∀ y ∈ s.slots, y.defn.start < 1440 ∧ y.defn.stop < 1440) →
     let counts := fun (k : Nat) (y : Slot) (day : Nat) =>
       s.slots[k]? = some y ∧ y.inUse = true ∧ y.defn.enabled = true ∧ y.defn.existsOn day = true ∧
       (y.defn.candidate day = true ∧ (∀ d, y.lastServed = some d → d < day) ∨
         ∃ o, s.engine.current = some o ∧ o.slot = k ∧ o.orphan = false ∧ o.day = day) ∧
       s.now < y.defn.stopOn day ∧ y.defn.startOn day < s.now + 10080
     (flagged s).length = s.slots.length ∧
     (flagged s)[i]? = some { x with conflict := ((flagged s).getD i .factory).conflict } ∧
     (((flagged s).getD i .factory).conflict = true ↔ ∃ k y a b, k ≠ i ∧ counts i x a ∧ counts k y b ∧
       x.defn.startOn a < y.defn.stopOn b ∧ y.defn.startOn b < x.defn.stopOn a))

/-- Outside HOLD the due list that the engine keeps is, after every step, the one that the slots, the mode and the clock
give, or empty until it is next rebuilt: after a setting of an UNSET clock within the minute it stands at, which is no step,
and after the first mains of a cold start.
No command but a cold start moves a slot's last served date to an earlier date, or makes it absent, while the slot is in
use under the same definition, *enabled* apart.
Readings of the model's own: log entry 37. -/
def Obligations.DueListKept : Prop :=
  (∀ s t : State, DueLaw s → step s = .next t → DueLaw t) ∧
  (∀ (c : Instr) (s t : State) (i d : Nat) (x y : Slot), exec c s = .next t →
     (∀ mains r failed, c ≠ .coldStart mains r failed) → s.slots[i]? = some x → t.slots[i]? = some y →
     x.inUse = true → y.inUse = true → { y.defn with enabled := x.defn.enabled } = x.defn → x.lastServed = some d →
     ∃ d', y.lastServed = some d' ∧ d ≤ d')

/-- The event work record: the fields of R134 by number, each refused BAD_ARG (2) out of range, the link's own record alone
written and the reply echoing field and value; FETCH_EVENT (0 to 31 a slot, 32 a new definition, else BAD_ARG) replaces the
record by the slot in use or by the blank definition of the moment.
Readings of the model's own: log entry 48. -/
def Obligations.EventWorkEdited : Prop :=
  ∀ (l : Link) (r : Rank) (field : Selector) (value : Value) (arg : Arg) (s : State), liveIn s.power.state l = true →
    WriterLaw s →
    let w := (s.port l).eventWork
    let e := w.defn
    let v := value.toNat
    let day : Date := ⟨1990 + (value.extractLsb' 9 7).toNat, (value.extractLsb' 5 4).toNat, (value.extractLsb' 0 5).toNat⟩
    let hour := (value.extractLsb' 6 5).toNat
    let minute := (value.extractLsb' 0 6).toNat
    let written : Option EventDef := match field.toNat with
      | 0 => if v ≤ 1 then some { e with enabled := v == 1 } else none
      | 1 =>
        if v = 0 then some { e with rep := .once } else if v = 1 then some { e with rep := .daily }
        else if v = 2 then some { e with rep := .weekdays } else if v = 3 then some { e with rep := .weekly } else none
      | 2 =>
        if v < 65536 ∧ day.year ≤ 2089 ∧ 1 ≤ day.month ∧ day.month ≤ 12 ∧ 1 ≤ day.day then
          some { e with date := .calendar day }
        else none
      | 3 => if v ≤ 6 then some { e with date := .weekday v } else none
      | 4 => if v ≤ 1439 then some { e with start := v } else none
      | 5 => if v ≤ 1439 then some { e with stop := v } else none
      | 6 => if 1 ≤ v ∧ v ≤ 60 then some { e with preset := v } else none
      | 7 =>
        if v = 0 then some { e with speed := .sp } else if v = 1 then some { e with speed := .lp }
        else if v = 2 then some { e with speed := .ep } else if v = 3 then some { e with speed := .auto } else none
      | 8 =>
        if v = 0 then some { e with label := .off } else if v = 2048 then some { e with label := .on none }
        else if 4096 ≤ v ∧ v < 6144 ∧ hour ≤ 23 ∧ minute ≤ 59 then some { e with label := .on (some (hour, minute)) }
        else none
      | _ => none
    let port := fun (x : EventWork) (data : Arg) =>
      { s with ports := portsAfter (s.modPort l fun p => { p with eventWork := x }) (some (l, accepted data)) 0 }
    let n := arg.toNat
    let x := s.slots.getD n .factory
    let blank : EventWork :=
      { origin := .fetched, slot := some n, version := x.version, fetchedInUse := false,
        defn := { enabled := true, rep := .once, date := .calendar s.clock.now.date, start := 0, stop := 60,
                  preset := s.tuner.source.preset?.getD 1, speed := .auto, label := .off },
        shownOwner := none, shownLastServed := none, shownOutcome := none, shownConflict := false }
    (exec (.writeEventWorkRecordField l r field value) s = .next
      (match written with
        | some d => port { w with defn := d } (field ++ value)
        | none => { s with ports := portsAfter s (some (l, refusedWith 2)) 0 })) ∧
    (exec (.fetchEvent l r arg) s = .next
      (if 32 < n then { s with ports := portsAfter s (some (l, refusedWith 2)) 0 }
      else if n = 32 then port { blank with origin := .new, slot := none, version := 0 } 0
      else if x.inUse = false then port blank 0
      else port
        { blank with fetchedInUse := true, defn := x.defn, shownOwner := x.owner, shownLastServed := x.lastServed,
                     shownOutcome := x.outcome, shownConflict := x.conflict } 0))

/-- STORE_EVENT of a slot whose occurrence is not the current one: the steps of R135 in order (WRONG_STATE 6, STALE 10, then
BAD_ARG, NO_PRESET, PAST), then the definition written with the requester as owner, last served date and outcome kept where
only enabled changes; a store of what stands changes nothing. The work record is refreshed and the reply notes a conflict.
NEW_EVENT puts the work record into the lowest free slot and replies with its number: WRONG_STATE (6) without a fetch,
FULL (11) without a free slot, then the steps of R135. DELETE_EVENT returns a slot in use to its free value, its version on:
BAD_ARG (2) beyond 31, EMPTY_SLOT (12) for a free one, RANK (3) at automatic rank for the current occurrence's.
With another slot's occurrence current all three leave the engine's judgeDue, the model's own, standing (log entry 7).
Readings of the model's own: log entries 7 and 37. -/
def Obligations.EventsStoredAndDeleted : Prop :=
  (∀ (l : Link) (r : Rank) (arg : Arg) (n : Nat) (s : State), liveIn s.power.state l = true → s.undisturbed → WriterLaw s →
     let w := (s.port l).eventWork
     let x := s.slots.getD n .factory
     let e := asStored w.defn
     let enabledOnly := x.inUse && (e == { x.defn with enabled := e.enabled })
     let served := if enabledOnly then x.lastServed else none
     let outcome := if enabledOnly then x.outcome else none
     let refused := fun (code : Nat) => { s with ports := portsAfter s (some (l, refusedWith code)) 0 }
     let who := (l, effectiveRank s l r)
     let u := slotChanged n { x with inUse := true, defn := e, owner := some who, lastServed := served,
                                     outcome := outcome } s
     let y := u.slots.getD n .factory
     let done := fun (v : State) (y : Slot) (ks : KindSet) =>
       { v with
         ports := portsAfter (s.modPort l fun p => { p with eventWork := refreshed n y w })
           (some (l, accepted (noteOf y.conflict none))) ks }
     let pend := fun (v : State) => { v with engine := { v.engine with judgeDue := true } }
     let other := ∀ o, s.engine.current = some o → o.orphan = true ∨ o.slot ≠ n
     (w.origin ≠ .fetched → exec (.storeEvent l r arg) s = .next (refused 6)) ∧
     (w.origin = .fetched → w.slot = some n →
       (x.version ≠ w.version ∨ (x.inUse = true ∧ w.fetchedInUse = false) →
         exec (.storeEvent l r arg) s = .next (refused 10)) ∧
       (x.version = w.version → (x.inUse = true → w.fetchedInUse = true) → other →
         (∀ code ∈ (definitionRefusal s e served).toList, exec (.storeEvent l r arg) s = .next (refused code)) ∧
         (definitionRefusal s e served = none → x.inUse = true → e = x.defn →
           exec (.storeEvent l r arg) s = .next (done s x 0)) ∧
         (definitionRefusal s e served = none → (x.inUse = true → e ≠ x.defn) → n < s.slots.length →
           (s.quiet → u.calm → exec (.storeEvent l r arg) s = .next (done u y 0x00400#18)) ∧
           (s.engine.current ≠ none →
             exec (.storeEvent l r arg) s = .next (done (pend u) y 0x00400#18)))))) ∧
  (∀ (l : Link) (r : Rank) (arg : Arg) (n code : Nat) (o : Occurrence) (s : State), liveIn s.power.state l = true →
     s.undisturbed → WriterLaw s →
     let w := (s.port l).eventWork
     let e := asStored w.defn
     let refused := fun (code : Nat) => { s with ports := portsAfter s (some (l, refusedWith code)) 0 }
     let free := s.slots.findIdx? fun x => !x.inUse
     let who := (l, effectiveRank s l r)
     let u := slotChanged n { s.slots.getD n .factory with inUse := true, defn := e, owner := some who,
                                                           lastServed := none, outcome := none } s
     let y := u.slots.getD n .factory
     let k := arg.toNat
     let v := slotChanged k Slot.factory s
     let pend := fun (v : State) => { v with engine := { v.engine with judgeDue := true } }
     (w.origin = .none → exec (.newEvent l r arg) s = .next (refused 6)) ∧
     (w.origin ≠ .none → free = none → exec (.newEvent l r arg) s = .next (refused 11)) ∧
     (w.origin ≠ .none → free = some n → definitionRefusal s e none = some code →
       exec (.newEvent l r arg) s = .next (refused code)) ∧
     (w.origin ≠ .none → free = some n → definitionRefusal s e none = none →
       let ports := portsAfter (s.modPort l fun p => { p with eventWork := refreshed n y w })
         (some (l, accepted (noteOf y.conflict (some n)))) 0x00400#18
       (s.quiet → u.calm → exec (.newEvent l r arg) s = .next { u with ports := ports }) ∧
       (s.engine.current ≠ none → exec (.newEvent l r arg) s = .next { pend u with ports := ports })) ∧
     (32 ≤ k → exec (.deleteEvent l r arg) s = .next (refused 2)) ∧
     (k < 32 → (s.slots.getD k .factory).inUse = false → exec (.deleteEvent l r arg) s = .next (refused 12)) ∧
     (k < 32 → (s.slots.getD k .factory).inUse = true → s.engine.current = some o → o.slot = k → o.orphan = false →
       effectiveRank s l r = .automatic → exec (.deleteEvent l r arg) s = .next (refused 3)) ∧
     (k < 32 → (s.slots.getD k .factory).inUse = true → k < s.slots.length →
       let ports := portsAfter s (some (l, accepted 0)) 0x00400#18
       (s.quiet → v.calm → exec (.deleteEvent l r arg) s = .next { v with ports := ports }) ∧
       (s.engine.current ≠ none → (∀ o, s.engine.current = some o → o.orphan = true ∨ o.slot ≠ k) →
         exec (.deleteEvent l r arg) s = .next { pend v with ports := ports })))

/-! ## Timed recording (chapter 8) -/

/-- TIMER_ON_OFF (0 OFF, 1 ON) and the setting *timer on* set the mode, refused BAD_ARG (2), RANK (3) at automatic rank and
LOCKED (4) for OFF under the lock; a change writes the setting, raises TIMER_STATE (bit 13) and takes the due list again.
TIMER_LOCK_UNLOCK: the checks of R145 in order; a lock set anew raises TIMER_STATE, parks from STOP and THREADING, and
asks for STANDBY, which a tape at rest in PARKED gives at once. Unlocking clears the lock and nothing else.
Readings of the model's own: log entry 37. -/
def Obligations.TimerModeAndLockSet : Prop :=
  (∀ (l : Link) (r : Rank) (arg : Arg) (value : Value) (s : State), liveIn s.power.state l = true → s.undisturbed →
     WriterLaw s →
     let user := effectiveRank s l r == .user
     let refusal := fun (n : Nat) =>
       if 1 < n then some 2 else if user = false then some 3 else if n = 0 ∧ s.engine.lock = true then some 4 else none
     let refused := fun (code : Nat) => { s with ports := portsAfter s (some (l, refusedWith code)) 0 }
     let v := min 1 value.toNat
     let u := fun (n : Nat) =>
       { s with settings := { s.settings with timerOn := n == 1 }, engine := { s.engine with mode := n == 1 } }
     let after := fun (n : Nat) (data : Arg) =>
       { areaChanged .settings { u n with engine := { (u n).engine with due := dueListOf (u n) } } with
         ports := portsAfter s (some (l, accepted data)) 0x02000#18 }
     let n := arg.toNat
     let echo : Arg := 15#4 ++ BitVec.ofNat 20 v
     (∀ code ∈ (refusal n).toList, exec (.timerOnOff l r arg) s = .next (refused code)) ∧
     (∀ code ∈ (refusal v).toList, exec (.writeSetting l r 15 value) s = .next (refused code)) ∧
     (refusal n = none → s.engine.mode = (n == 1) →
       exec (.timerOnOff l r arg) s = .next { s with ports := portsAfter s (some (l, accepted 0)) 0 }) ∧
     (refusal v = none → s.engine.mode = (v == 1) →
       exec (.writeSetting l r 15 value) s = .next { s with ports := portsAfter s (some (l, accepted echo)) 0 }) ∧
     (refusal n = none → s.engine.mode ≠ (n == 1) → s.quiet → (u n).calm →
       exec (.timerOnOff l r arg) s = .next (after n 0)) ∧
     (refusal v = none → s.engine.mode ≠ (v == 1) → s.quiet → (u v).calm →
       exec (.writeSetting l r 15 value) s = .next (after v echo))) ∧
  (∀ (l : Link) (r : Rank) (arg : Arg) (s : State), liveIn s.power.state l = true → s.undisturbed → WriterLaw s →
     let t := s.transport
     let f := s.protection.faults
     let user := effectiveRank s l r == .user
     let refusal :=
       if arg ≠ 1 then some 2
       else if user = false then some 3
       else if s.engine.mode = false then some 6
       else if s.clock.set = false then some 13
       else if t.state = .empty ∨ t.state = .inserting ∨ t.state = .ejecting then some 7
       else if t.tab ≠ .present then some 8
       else if t.holder ≠ .none then some 3
       else if f.threadJam || f.unthreadJam || f.ejectJam then some 9
       else none
     let refused := fun (code : Nat) => { s with ports := portsAfter s (some (l, refusedWith code)) 0 }
     let u := { s with engine := { s.engine with lock := true } }
     let waits := fun (v : State) => { v with power := { v.power with pendingOff := some .lock } }
     let ports := fun (ks : KindSet) => portsAfter s (some (l, accepted 0)) (0x02000#18 ||| ks)
     let off := leftOn .lock u
     (arg ≠ 0 → ∀ code ∈ refusal.toList, exec (.timerLock l r arg) s = .next (refused code)) ∧
     (refusal = none → s.engine.lock = true →
       exec (.timerLock l r arg) s = .next { s with ports := portsAfter s (some (l, accepted 0)) 0 }) ∧
     (refusal = none → s.engine.lock = false →
       (s.power.state = .standby → t.state = .parked →
         exec (.timerLock l r arg) s = .next { u with ports := ports 0 }) ∧
       (s.power.state = .on → t.state = .stop →
         exec (.timerLock l r arg) s = .next { waits (sentToPark u) with ports := ports (parkKinds s) }) ∧
       (s.power.state = .on → t.state = .threading →
         exec (.timerLock l r arg) s = .next { waits (setIntent (some .parked) u) with ports := ports 0 }) ∧
       (s.power.state = .on → t.state = .parked → s.tuner.search = none → s.quiet →
         exec (.timerLock l r arg) s = .next
           { off with ports := ⟨portAfter s (if l = .p then some (l, accepted 0) else none) (0x02000#18 ||| leftKinds s) .p,
                                { portAfter off none 0 .g with
                                  reply := if l = .g then accepted 0 else (s.port .g).reply }⟩ })) ∧
     exec (.timerUnlock l r) s = .next
       (if user then
         { s with engine := { s.engine with lock := false }
                  ports := portsAfter s (some (l, accepted 0)) (if s.engine.lock then 0x02000#18 else 0) }
       else refused 3))

/-- The power return timer's expiry takes main power to STANDBY where the deck is unused and the timer had raised it, and
else clears the flag. The silence timer's expiry sets FALLBACK with TIMER_STATE: past the stop it ends the occurrence, and
in a label pause it sends Record again, or judges the start where none was sent. A timer that does not run does nothing.
Readings of the model's own: log entries 3 and 26. -/
def Obligations.EngineTimersExpire : Prop :=
  ∀ (o : Occurrence) (s : State), s.power.state ≠ .hold → s.power.pendingOff = none → WriterLaw s →
    let h := s.tuner.holder
    let unused := s.transport.holder == .none && (s.transport.state == .parked || s.transport.state == .empty) &&
      match h with
      | .viewUser _ | .search _ _ => false
      | _ => true
    let e := { s with engine := { s.engine with powerReturn := false } }
    let off := leftOn .timerReturn e
    let fallen := { o with silence := false, label := .fallback }
    (s.quiet → s.engine.powerReturn = true → unused = true → s.power.raised = true → s.power.state = .on →
      s.tuner.search = none →
      exec .powerReturnTimerExpiry s = .next { off with ports := portsAfter off none (leftKinds s) }) ∧
    (s.quiet → s.engine.powerReturn = true → unused = true → s.power.raised = false →
      exec .powerReturnTimerExpiry s = .next { e with ports := portsAfter s none 0 }) ∧
    (s.quiet → s.engine.powerReturn = true → unused = false →
      exec .powerReturnTimerExpiry s = .next
        { e with power := { s.power with raised := false }, ports := portsAfter s none 0 }) ∧
    (s.undisturbed → s.engine.powerReturn = false →
      exec .powerReturnTimerExpiry s = .next { s with ports := portsAfter s none 0 }) ∧
    (s.undisturbed → s.engine.current = some o →
      (o.silence = false → exec .silenceTimerExpiry s = .next { s with ports := portsAfter s none 0 }) ∧
      (o.silence = true → s.now < o.stop → o.phase = .recording ∨ o.phase = .watch → o.label = .matched →
        exec .silenceTimerExpiry s = .next
          { s with engine := { s.engine with current := some fallen }, ports := portsAfter s none 0x02000#18 }) ∧
      (o.silence = true → s.now < o.stop → o.phase = .labelPaused → o.label = .matched → o.startSent = true →
        o.begun = true → s.transport.state = .recPause → s.transport.tab = .present → s.pins.tapeEnd = false →
        s.protection.faults.reelStall = false → s.protection.faults.drumFault = false →
        ∃ t, exec .silenceTimerExpiry s = .next t ∧ t.transport.state = .record ∧
          t.transport.recordSpeed = s.transport.recordSpeed ∧
          t.engine.current = some { fallen with phase := .recording, resumeDue := false }) ∧
      (o.silence = true → s.now < o.stop → o.phase = .labelPaused → o.label = .matched → o.startSent = false →
        o.begun = false → s.power.state = .on → s.transport.state = .stop → startCheck s o = none →
        ∃ t, exec .silenceTimerExpiry s = .next t ∧ t.transport.state = .record ∧
          t.engine.current = some (begins fallen (chooseSpeed s o) s.clock.now)) ∧
      (o.silence = true → o.stop ≤ s.now → o.phase = .recording → o.label = .matched → o.begun = true →
        o.noted = none → ∀ x ∈ s.slots[o.slot]?.toList, s.serving o x → o.held = true → s.transport.holder = .timer → s.transport.state = .record →
        ∃ t, exec .silenceTimerExpiry s = .next t ∧
          EndsWith fallen { partialOutcome s o .power with verdict := .recorded } t))

/-- With no occurrence current, the head of the due list comes due at the minute its lead reaches: it becomes current in
WATCH, its date is served, the power return timer stops, main power is raised from STANDBY with the flag, and the transport
and the tuner, where no user holds them, are taken with the slot's preset; a parked tape threads toward STOP.
The start checks in the order of R152, and the speed of R153: a fixed speed, or the fastest the published tape suffices
for, or the fallback speed while the estimate is NONE.
The engine's takes end what runs under no user: a wind for a search of automatic rank stops, and both searches end
ABORTED. A user's own station search sends the occurrence to WAITING.
WAITING ends in one of two ways. At the user's STOP the engine takes the transport and the tuner with the slot's preset:
the phase is WATCH, and past the start minute the start is judged at once. At the minute that brings the clock to the stop
the occurrence is MISSED(BUSY) and no request is sent; its minutes are those the transport spent in RECORD, which counts for
an occurrence that is current (R149).
A slot with label control whose label state is NONE, its start reached: with no label of the channel seen the label state
becomes FALLBACK and the start is judged; with one seen the occurrence watches on, and at its stop it is
MISSED(LABEL_ABSENT).
Readings of the model's own: log entries 11 and 13. -/
def Obligations.OccurrenceComesDueAndStarts : Prop :=
  (∀ (e : DueEntry) (x : Slot) (s : State), s.power.state ≠ .hold → s.quiet → WriterLaw s → s.clock.source = .mains →
     let k := if s.settings.mains60 then 10 else 12
     let next := secondOn k s
     600 ≤ s.clock.subSecond + k → s.clock.now ≠ lastInstant → next.clock.now.time.second = 0 →
     s.noneStoppedBy next.now → (dueListOf next).head? = some e → e.start ≤ next.now + leadOf next e →
     next.now < e.start → s.slots[e.slot]? = some x → s.transport.state ≠ .record →
     let n := x.defn.preset
     (s.transport.holder = .none ∨ s.transport.holder = .timer → s.tuner.holder = .none ∨ s.tuner.holder = .timer →
       s.position.search = none → s.tuner.search = none →
       ∃ t, exec .mainsCycle s = .next t ∧ t.clock.now = next.clock.now ∧
         t.power.state = .on ∧ (s.power.state = .standby → t.power.raised = true) ∧
         t.engine.powerReturn = false ∧
         t.engine.current = some
           { slot := e.slot, day := e.day, start := e.start, stop := e.stop, phase := .watch, speed := none, label := .none,
             labelsSeen := false, lastLabel := none, actualStart := none, recorded := 0, noted := none,
             powerRaised := s.power.state == .standby || s.engine.powerReturn, silence := false, extension := none,
             held := true, orphan := false, startDue := false, handover := false, startSent := false, resumeDue := false } ∧
         (t.slots.getD e.slot .factory).lastServed = some e.day ∧
         (t.slots.getD e.slot .factory).version = (x.version + 1) % 256 ∧
         t.transport.holder = .timer ∧ t.tuner.holder = .timer ∧
         t.transport.state = (if s.transport.state = .parked then .threading
           else if s.transport.state.running then .stop else s.transport.state) ∧
         (s.transport.state = .parked → t.transport.intent = some .stop) ∧
         ((s.presets.getD (n - 1) .factory).stored = true → t.tuner.source = .preset n)) ∧
     (∀ m : Link, s.transport.holder = .user m → s.power.state = .on →
       ∃ t, exec .mainsCycle s = .next t ∧ t.transport = s.transport ∧ t.tuner = s.tuner ∧
         ∃ o, t.engine.current = some o ∧ o.phase = .waiting ∧ o.held = false)) ∧
  (∀ (s : State) (o : Occurrence),
     let e := (s.slots.getD o.slot .factory).defn
     let f := s.protection.faults
     let minutes := o.stop - s.now
     startCheck s o =
       (if s.transport.state = .empty ∨ s.transport.state = .ejecting then some .noCassette
       else if s.transport.tab ≠ .present then some .noTab
       else if s.pins.tapeEnd = true then some .tapeEnd
       else if (s.presets.getD (e.preset - 1) .factory).stored = false then some .noPreset
       else if f.threadJam || f.unthreadJam || f.ejectJam || f.reelStall || f.drumFault then some .fault
       else none) ∧
     (e.speed = .sp → chooseSpeed s o = .sp) ∧ (e.speed = .lp → chooseSpeed s o = .lp) ∧
     (e.speed = .ep → chooseSpeed s o = .ep) ∧
     (e.speed = .auto → s.gauge.estimate = .none → chooseSpeed s o = s.settings.fallbackSpeed) ∧
     (e.speed = .auto → s.gauge.estimate ≠ .none → ∀ r ∈ s.gauge.remainingSp.toList,
       (60 * minutes ≤ r → chooseSpeed s o = .sp) ∧
       (r < 60 * minutes → 60 * minutes ≤ 2 * r → chooseSpeed s o = .lp) ∧
       (2 * r < 60 * minutes → chooseSpeed s o = .ep))) ∧
  (∀ (l : Link) (e : DueEntry) (x : Search) (y : StationSearch) (s : State), s.power.state = .on → s.quiet → WriterLaw s →
     s.minuteComes →
     let next := secondOn (cycleOf s) s
     (dueListOf next).head? = some e → e.start ≤ next.now + leadOf next e → next.now < e.start → e.slot < s.slots.length →
     (s.transport.holder = .auto l → s.transport.state = .fwind → s.position.search = some x →
       s.tuner.holder = .search .automatic l → s.tuner.search = some y →
       ∃ t, exec .mainsCycle s = .next t ∧ t.transport.state = .stop ∧ t.transport.holder = .timer ∧
         t.position.search = none ∧
         t.position.lastEnding = some ⟨if x.index then .index else .counter, .aborted, s.position.counter, some x.link⟩ ∧
         t.tuner.search = none ∧ t.tuner.holder = .timer ∧
         t.tuner.lastEnding = some ⟨y.storing, .aborted, if y.storing then y.stored else 0, y.divider⟩ ∧
         (t.port .p).pending.getLsbD 4 = true ∧ (t.port .p).pending.getLsbD 8 = true) ∧
     (s.tuner.holder = .search .user l →
       ∃ t, exec .mainsCycle s = .next t ∧ t.transport.state = s.transport.state ∧
         t.transport.holder = s.transport.holder ∧ t.tuner = s.tuner ∧ ∃ o, t.engine.current = some o ∧ o.slot = e.slot ∧
         o.phase = .waiting ∧ o.held = false)) ∧
  (∀ (l m : Link) (r : Rank) (arg : Arg) (o : Occurrence) (x : Slot) (s : State), s.serving o x → o.phase = .waiting →
     o.held = false → o.startDue = false → o.label = .none →
     let watch := { o with phase := .watch, held := true }
     let v := chooseSpeed s o
     let next := secondOn (cycleOf s) s
     let counted := if s.transport.state = .record then min (o.recorded + cycleOf s) (86340 * 600) else o.recorded
     let missed := missedOutcome { o with recorded := counted } .busy
     (s.now < o.stop → s.engine.lock = false → effectiveRank s l r = .user → s.transport.holder = .user m →
       s.transport.state.running = true → s.transport.intent = none → s.tuner.search = none → s.tuner.holder = .none →
       (s.now < o.start →
         ∃ t, exec (.stop l r arg) s = .next t ∧ t.engine.current = some watch ∧ t.transport.state = .stop ∧
           t.transport.holder = .timer ∧ t.tuner.holder = .timer ∧
           ((s.presets.getD (x.defn.preset - 1) .factory).stored = true → t.tuner.source = .preset x.defn.preset)) ∧
       (o.start ≤ s.now → o.begun = false → x.defn.label = .off → startCheck s o = none →
         ∃ t, exec (.stop l r arg) s = .next t ∧ t.engine.current = some (begins watch v s.clock.now) ∧
           t.transport.state = .record ∧ t.transport.recordSpeed = v ∧ t.transport.holder = .timer ∧
           (t.port .p).pending.getLsbD 11 = true)) ∧
     (s.minuteComes → o.stop = next.now → s.clock.correction = none → (withoutCurrent o.slot missed next).calm →
       ∃ t, exec .mainsCycle s = .next t ∧ t.engine.current = none ∧
         t.engine.powerReturn = (o.powerRaised || s.engine.powerReturn) ∧
         (t.slots.getD o.slot .factory).outcome = some missed ∧ (t.port .p).pending.getLsbD 12 = true ∧
         t.transport.state = s.transport.state ∧ t.transport.holder = s.transport.holder ∧ t.tuner = s.tuner)) ∧
  (∀ (o : Occurrence) (x : Slot) (s : State), s.serving o x → s.minuteComes → o.phase = .watch → o.held = true →
     o.label = .none → x.defn.label ≠ .off → o.extension = none → o.begun = false → o.startDue = false →
     s.transport.holder = .timer → s.transport.state = .stop →
     let next := secondOn (cycleOf s) s
     let fallen := { o with label := .fallback }
     let v := chooseSpeed next o
     (o.start = next.now → next.now < o.stop → o.labelsSeen = false →
       (startCheck s o = none →
         ∃ t, exec .mainsCycle s = .next t ∧ t.engine.current = some (begins fallen v next.clock.now) ∧
           t.transport.state = .record ∧ t.transport.recordSpeed = v ∧ t.transport.holder = .timer ∧
           (t.port .p).pending.getLsbD 11 = true ∧ (t.port .p).pending.getLsbD 13 = true) ∧
       (∀ why ∈ (startCheck s o).toList, why ≠ .noCassette →
         ∃ t, exec .mainsCycle s = .next t ∧ EndsWith fallen (missedOutcome o why) t)) ∧
     (o.start ≤ next.now → next.now < o.stop → o.labelsSeen = true →
       ∃ t, exec .mainsCycle s = .next t ∧ t.engine.current = some o ∧ t.transport = s.transport ∧ t.tuner = s.tuner) ∧
     (o.stop = next.now → o.labelsSeen = true →
       ∃ t, exec .mainsCycle s = .next t ∧ EndsWith o (missedOutcome o .labelAbsent) t))

/-- A clock-controlled occurrence runs its course: at its start minute in STOP it records at the chosen speed with
TIMER_START (bit 11), or ends MISSED with the check's reason; at its stop it ends with the outcome written, the tape sent to
PARKED; and when the tape rests the holds are released and the power return timer runs where power was raised.
A start without a cassette: in EJECTING the occurrence is MISSED(NO_CASSETTE) and ends as the motion does; in EMPTY it ends
at once, the holds released and the power return timer running where power was raised.
A MATCHED occurrence runs on past its stop, to the stop and *extension limit* minutes more, and ends
PARTIAL(EXTENSION_LIMIT) there, at its stop where the limit is 0; one that never began to record ends
MISSED(LABEL_ABSENT).
In its extension, or at its stop in MATCHED, an occurrence yields to the head of the due list that has started:
PARTIAL(YIELDED) is written, the head becomes current under the standing holds, its label state NONE or FALLBACK, and its
start is judged. Where the checks pass the tuner is retuned and the tape records on at the head's speed; in INSERTING the
start waits.
A recording that goes on across a minute boundary: each slot with a window that has passed is judged once,
MISSED(OVERLAP), for the latest date passed after the last served, with TIMER_END (bit 12) and EVENT_TABLE (bit 10); the due
list is taken again, with the engine's judgeDue, the model's own, standing on under the recording (log entry 7).
The end of an ending, as the tape comes to rest in PARKED: the holds released, a stale applied preset taken from the table
again, and its change reported; a pending correction applied within the calendar, with CLOCK (bit 6); the windows that have
passed judged, MISSED(CLOCK_STEP) where the correction passed them, else MISSED(OVERLAP), with TIMER_END; the due list taken
again.
Readings of the model's own: log entries 7, 11, 13, 24 and 34. -/
def Obligations.OccurrenceRunsItsCourse : Prop :=
  (∀ (o : Occurrence) (x : Slot) (s : State), s.power.state = .on → s.undisturbed → WriterLaw s →
     s.engine.current = some o → o.held = true → o.orphan = false → o.extension = none → o.label = .none →
     s.slots[o.slot]? = some x → x.inUse = true → x.defn.label = .off → s.transport.holder = .timer →
     s.clock.source = .mains → s.position.search = none →
     let k := if s.settings.mains60 then 10 else 12
     let next := secondOn k s
     let slot := fun (t : State) => t.slots.getD o.slot .factory
     let speed := chooseSpeed next o
     let tape := min (o.recorded + k) (86340 * 600)
     (600 ≤ s.clock.subSecond + k → s.clock.now ≠ lastInstant → next.clock.now.time.second = 0 →
       s.noneStoppedBy next.now →
       (o.phase = .watch → o.start = next.now → next.now < o.stop → o.begun = false → s.transport.state = .stop →
         (startCheck s o = none →
           ∃ t, exec .mainsCycle s = .next t ∧ t.transport.state = .record ∧ t.transport.recordSpeed = speed ∧
             t.transport.holder = .timer ∧ t.outputs.recordEnable = true ∧
             t.engine.current = some { o with
               phase := .recording, speed := some speed, startDue := false, handover := false, startSent := true,
               actualStart := some next.clock.now } ∧
             t.position.pendingMark = (s.position.pendingMark || s.settings.indexWrite) ∧
             (t.port .p).pending.getLsbD 11 = true ∧ (t.port .p).pending.getLsbD 13 = true) ∧
         (∀ why ∈ (startCheck s o).toList, why ≠ .noCassette →
           ∃ t, exec .mainsCycle s = .next t ∧ t.transport.state = .unthreading ∧ t.transport.intent = some .parked ∧
             t.engine.current = some { o with phase := .ending, silence := false, startDue := false, resumeDue := false } ∧
             (slot t).outcome = some ⟨.missed why, o.day, none, min (o.recorded / 36000) 1439⟩ ∧
             (x.defn.rep = .once → (slot t).defn.enabled = false) ∧ (t.port .p).pending.getLsbD 12 = true)) ∧
       (o.phase = .recording → o.begun = true → s.transport.state = .record → o.stop = next.now → o.resumeDue = false →
         ∃ t, exec .mainsCycle s = .next t ∧ t.transport.state = .unthreading ∧ t.transport.intent = some .parked ∧
           t.engine.current = some { o with phase := .ending, silence := false, startDue := false, resumeDue := false,
                                            recorded := tape } ∧
           (slot t).outcome = some
             { verdict := match o.noted with
                 | none => .recorded
                 | some .lateStart => .partly .lateStart
                 | some .power => .partly .power
                 | some .tapeEnd => .partly .tapeEnd
                 | some .fault => .partly .fault
               day := o.day, speed := some (o.speed.getD (s.presumedSpeed o)), minutes := min (tape / 36000) 1439 } ∧
           (x.defn.rep = .once → (slot t).defn.enabled = false) ∧ (t.port .p).pending.getLsbD 12 = true)) ∧
     (o.phase = .ending → s.transport.state = .unthreading → s.transport.intent = some .parked → s.tuner.holder = .timer →
       s.clock.correction = none → s.noneStoppedBy s.now →
       { s with engine := { s.engine with current := none } }.calm →
       ∃ t, exec (.parkedSwitchCloses true) s = .next t ∧ t.transport.state = .parked ∧ t.transport.holder = .none ∧
         t.tuner.holder = .none ∧ t.engine.current = none ∧ t.engine.powerReturn = (o.powerRaised || s.engine.powerReturn) ∧
         t.power = s.power)) ∧
  (∀ (o : Occurrence) (x : Slot) (s : State), s.serving o x → s.minuteComes → o.phase = .watch → o.held = true →
     o.label = .none → x.defn.label = .off → o.extension = none → o.startDue = false → s.transport.holder = .timer →
     s.tuner.holder = .timer →
     let next := secondOn (cycleOf s) s
     let missed := missedOutcome o .noCassette
     o.start ≤ next.now → next.now < o.stop →
     (s.transport.state = .ejecting →
       ∃ t, exec .mainsCycle s = .next t ∧ t.transport.state = .ejecting ∧ t.engine.current = some (inEnding o) ∧
         (t.slots.getD o.slot .factory).outcome = some missed ∧ (t.port .p).pending.getLsbD 12 = true) ∧
     (s.transport.state = .empty → s.clock.correction = none → (withoutCurrent o.slot missed next).calm →
       ∃ t, exec .mainsCycle s = .next t ∧ t.transport.state = .empty ∧ t.transport.holder = .none ∧
         t.tuner.holder = .none ∧ t.engine.current = none ∧
         t.engine.powerReturn = (o.powerRaised || s.engine.powerReturn) ∧
         (t.slots.getD o.slot .factory).outcome = some missed ∧ (t.port .p).pending.getLsbD 12 = true)) ∧
  (∀ (o : Occurrence) (x : Slot) (s : State), s.serving o x → s.minuteComes → o.held = true → o.label = .matched →
     s.transport.holder = .timer → o.startDue = false → o.resumeDue = false →
     let next := secondOn (cycleOf s) s
     let taped := { o with recorded := min (o.recorded + cycleOf s) (86340 * 600) }
     let limit := s.settings.extension
     s.noneStartedBy next.now →
     (o.phase = .recording → o.begun = true → s.transport.state = .record → o.extension = none → o.stop = next.now →
       0 < limit →
       ∃ t, exec .mainsCycle s = .next t ∧ t.engine.current = some { taped with extension := some (o.stop + limit) } ∧
         t.transport.state = .record ∧ t.transport.holder = .timer ∧ t.tuner = s.tuner) ∧
     (o.extension = none ∧ o.stop = next.now ∧ limit = 0 ∨ o.extension = some next.now →
       (o.phase = .recording → o.begun = true → s.transport.state = .record →
         ∃ t, exec .mainsCycle s = .next t ∧ EndsWith taped (partialOutcome next taped .extensionLimit) t) ∧
       (o.phase = .labelPaused → o.begun = false → s.transport.state = .stop →
         ∃ t, exec .mainsCycle s = .next t ∧ EndsWith o (missedOutcome o .labelAbsent) t)) ∧
     (∀ e, o.extension = some e → next.now < e → o.phase = .recording → o.begun = true → s.transport.state = .record →
       ∃ t, exec .mainsCycle s = .next t ∧ t.engine.current = some taped ∧ t.transport.state = .record)) ∧
  (∀ (e : DueEntry) (o : Occurrence) (x y : Slot) (s : State), s.serving o x → s.minuteComes → o.held = true →
     o.label = .matched → s.transport.holder = .timer → s.tuner.holder = .timer → o.startDue = false →
     o.resumeDue = false → s.slots[e.slot]? = some y → y.inUse = true → s.engine.due.head? = some e →
     let next := secondOn (cycleOf s) s
     let taped := { o with recorded := min (o.recorded + cycleOf s) (86340 * 600) }
     let new := { Occurrence.ofDue e with
       held := true, startDue := true, handover := true, powerRaised := o.powerRaised || s.engine.powerReturn
       label := if y.defn.label = .off then .none else .fallback }
     let v := chooseSpeed next new
     let yielded := fun (t : State) (r : OutcomeRecord) =>
       (e.slot ≠ o.slot → (t.slots.getD o.slot .factory).outcome = some r ∧
         (t.slots.getD e.slot .factory).lastServed = some (max (y.lastServed.getD e.day) e.day)) ∧
       (t.port .p).pending.getLsbD 12 = true ∧ (t.port .p).pending.getLsbD 13 = true ∧ t.engine.powerReturn = false ∧
       t.transport.holder = .timer ∧ t.tuner.holder = .timer
     e.start ≤ next.now → next.now < e.stop → (o.extension = none ∧ o.stop = next.now ∨ o.extension ≠ none) →
     (o.phase = .recording → o.begun = true → s.transport.state = .record →
       (startCheck next new = none →
         ∃ t, exec .mainsCycle s = .next t ∧ yielded t (partialOutcome next taped .yielded) ∧
           t.engine.current = some (begins new v next.clock.now) ∧ t.transport.state = .record ∧
           t.transport.recordSpeed = v ∧ t.tuner.source = .preset y.defn.preset ∧ (t.port .p).pending.getLsbD 11 = true) ∧
       (∀ why ∈ (startCheck next new).toList, why ≠ .noCassette →
         ∃ t, exec .mainsCycle s = .next t ∧ yielded t (partialOutcome next taped .yielded) ∧
           EndsWith new (missedOutcome new why) t)) ∧
     (o.phase = .watch → o.begun = false → s.transport.state = .inserting →
       ∃ t, exec .mainsCycle s = .next t ∧ yielded t (missedOutcome o .labelAbsent) ∧ t.engine.current = some new ∧
         t.transport.state = .inserting)) ∧
  (∀ (o : Occurrence) (x : Slot) (s : State), s.serving o x → o.phase = .recording → o.begun = true →
     o.startDue = false → o.resumeDue = false → o.extension = none → s.transport.state = .record →
     let next := secondOn (cycleOf s) s
     let taped := { o with recorded := min (o.recorded + cycleOf s) (86340 * 600) }
     let u := { next with engine := { next.engine with current := some taped } }
     let time := next.clock.now.time
     s.clock.source = .mains → 600 ≤ s.clock.subSecond + cycleOf s → s.clock.now ≠ lastInstant → time.second = 0 →
     next.now < o.stop → s.passedInUse next.now →
     ∃ t, exec .mainsCycle s = .next t ∧
       t.engine = { u.engine with due := dueListOf (judgedPassed .overlap u), judgeDue := true } ∧
       t.slots = (if time.hour = 0 ∧ time.minute = 0 then flagged (judgedPassed .overlap u) else missedTable .overlap u) ∧
       (missedSlots .overlap u.now u ≠ u.slots →
         (t.port .p).pending.getLsbD 12 = true ∧ (t.port .p).pending.getLsbD 10 = true) ∧
       t.transport = { s.transport with oneTouch := s.transport.oneTouch.map fun n => max 1 (n - cycleOf s) } ∧
       t.tuner = s.tuner ∧ t.clock = next.clock) ∧
  (∀ (tab : Bool) (o : Occurrence) (x : Slot) (s : State), s.serving o x → o.phase = .ending → o.held = true →
     s.transport.holder = .timer → s.tuner.holder = .timer → s.tuner.search = none → s.transport.state = .unthreading →
     s.transport.intent = some .parked →
     let freed := tunerFreed s
     let c : Clock := match s.clock.correction with
       | none => freed.clock
       | some k =>
         { freed.clock with
           now := dateTimeOf (max 0 (min 3155759999 ((epochSecond s.clock.now : Int) + k))).toNat
           set := true, correction := none }
     let u := { s with clock := c, engine := { s.engine with current := none } }
     let why : MissedReason := if s.now < u.now then .clockStep else .overlap
     let after := if u.now < s.now then u else judgedPassed why u
     s.passedInUse u.now → (u.now < s.now → s.noneStoppedBy u.now) → after.calm →
     ∃ t, exec (.parkedSwitchCloses tab) s = .next t ∧ t.transport.state = .parked ∧ t.transport.intent = none ∧
       t.transport.holder = .none ∧ t.tuner = freed.tuner ∧ t.receiver = freed.receiver ∧
       t.outputs.tunerWord = freed.outputs.tunerWord ∧ t.clock = c ∧
       t.slots = (if u.now = s.now then missedTable why u else flagged after) ∧
       t.engine = { s.engine with
         current := none, powerReturn := o.powerRaised || s.engine.powerReturn, judgeDue := false
         due := dueListOf after } ∧
       (t.port .p).pending.getLsbD 13 = true ∧ (t.port .p).pending.getLsbD 7 = true ∧
       (s.clock.correction ≠ none → (t.port .p).pending.getLsbD 6 = true) ∧
       (after.slots ≠ s.slots → (t.port .p).pending.getLsbD 12 = true ∧ (t.port .p).pending.getLsbD 10 = true) ∧
       t.power = s.power ∧ t.presets = s.presets ∧ t.settings = s.settings)

/-- Under the TIMER holder a user's STOP in RECORD ends the occurrence STOPPED_BY_USER. A label packet of the channel steers a
slot with label control: a matching RUNNING makes it MATCHED and judges the start, again where it is MATCHED and nothing has
been recorded (log entry 26), a matching PAUSED pauses, a matching ENDED ends it, and each seen restarts the silence timer
once MATCHED.
A matching RUNNING resumes a label pause: from REC_PAUSE recording goes on, from STOP the tape records at the speed chosen,
and from PARKED it threads first. Once MATCHED, a RUNNING that does not match ends the occurrence, MISSED(LABEL_ABSENT) where
nothing was recorded, and the tape is sent to PARKED from where it stands: from STOP, RECORD and REC_PAUSE it unthreads, in a
motion PARKED becomes the intent, and in PARKED, EMPTY and EJECTING nothing moves. A RUNNING that does not match while
the label state is NONE is only seen.
The last byte of a PROG packet brings it to the engine, and to the label queue as ever: seen, a start that begins to record,
a pause, and the two endings.
Readings of the model's own: log entries 11, 13, 22, 34 and 46. -/
def Obligations.UserStopAndLabels : Prop :=
  (∀ (l : Link) (r : Rank) (arg : Arg) (o : Occurrence) (x : Slot) (n identity day month hour minute : Nat)
     (status : ProgStatus) (s : State), s.engine.current = some o → s.slots[o.slot]? = some x →
     let d := dateOf o.day
     let p := s.presets.getD (n - 1) .factory
     let time := match x.defn.label with
       | .on (some (h, m)) => h * 60 + m
       | _ => x.defn.start
     let fits := d.day = day ∧ d.month = month ∧ hour * 60 + minute = time
     let mine := s.tuner.source = .preset n ∧ (p.identity = none ∨ p.identity = some identity)
     let t := examineLabel identity day month hour minute status s
     let seen := { o with labelsSeen := true, lastLabel := some s.clock.now }
     let listens := (o.phase = .watch ∨ o.phase = .recording ∨ o.phase = .labelPaused) ∧ x.defn.label ≠ .off ∧
       o.label ≠ .fallback
     (s.undisturbed → WriterLaw s → s.power.state = .on → s.engine.lock = false → s.transport.holder = .timer →
       effectiveRank s l r = .user → s.transport.state = .record → o.phase = .recording → o.held = true →
       o.orphan = false → x.inUse = true → s.position.search = none →
       ∃ t, exec (.stop l r arg) s = .next t ∧ t.transport.state = .unthreading ∧ t.transport.intent = some .parked ∧
         t.transport.holder = .timer ∧
         t.engine.current = some { o with phase := .ending, silence := false, startDue := false, resumeDue := false } ∧
         (t.slots.getD o.slot .factory).outcome = some
           ⟨.stoppedByUser, o.day, o.speed, min (o.recorded / 36000) 1439⟩) ∧
     (¬ listens ∨ ¬ mine ∧ s.tuner.source = .preset n ∨ s.tuner.source = .search ∨ s.tuner.source = .none → t = s) ∧
     (listens → mine →
       (status = .pending ∨ ¬ fits ∧ (status ≠ .running ∨ o.label ≠ .matched) →
         t = { s with engine := { s.engine with current := some { seen with silence := o.label == .matched } } }) ∧
       (fits → status = .running → o.begun = false →
         t.engine.current = some { seen with label := .matched, startDue := true, silence := true }) ∧
       (fits → status = .running → o.begun = true → o.phase = .recording → s.transport.state = .record →
         t.engine.current = some { seen with label := .matched, silence := true }) ∧
       (fits → status = .paused →
         t.engine.current = some { seen with label := .matched, phase := .labelPaused, startDue := false,
                                             silence := true } ∧
         (s.transport.state = .record → t.transport.state = .recPause)) ∧
       (fits → status = .ended →
         t.engine.current = some { seen with phase := .ending, silence := false, startDue := false, resumeDue := false }))) ∧
  (∀ (o : Occurrence) (x : Slot) (n identity day month hour minute : Nat) (s : State), s.engine.current = some o →
     s.slots[o.slot]? = some x → x.inUse = true → o.orphan = false →
     let d := dateOf o.day
     let p := s.presets.getD (n - 1) .factory
     let time := match x.defn.label with
       | .on (some (h, m)) => h * 60 + m
       | _ => x.defn.start
     let fits := d.day = day ∧ d.month = month ∧ hour * 60 + minute = time
     let t := examineLabel identity day month hour minute .running s
     let seen := { o with labelsSeen := true, lastLabel := some s.clock.now }
     let resumed := { seen with label := .matched, phase := .recording, silence := true, resumeDue := false }
     let v := o.speed.getD ((partialOutcome s o .power).speed.getD .sp)
     let outcome := if o.begun then { partialOutcome s o .power with verdict := .recorded } else missedOutcome o .labelAbsent
     o.phase = .watch ∨ o.phase = .recording ∨ o.phase = .labelPaused → x.defn.label ≠ .off → o.label ≠ .fallback →
     s.tuner.source = .preset n → p.identity = none ∨ p.identity = some identity →
     (fits → o.phase = .labelPaused → o.begun = true → s.transport.tab ≠ .absent → s.pins.tapeEnd = false →
       s.protection.faults = Faults.none →
       (s.transport.state = .recPause → t.engine.current = some resumed ∧ t.transport.state = .record ∧
         t.transport.recordSpeed = s.transport.recordSpeed) ∧
       (s.transport.state = .stop → t.engine.current = some resumed ∧ t.transport.state = .record ∧
         t.transport.recordSpeed = v) ∧
       (s.transport.state = .parked → t.engine.current = some resumed ∧ t.transport.state = .threading ∧
         t.transport.intent = some (.record (.engine v false)))) ∧
     (¬ fits → o.label = .matched → o.held = true → s.transport.holder = .timer → s.power.state = .on →
       (o.begun = true → o.noted = none) →
       (t.engine.current = some (inEnding seen) ∧ (t.slots.getD o.slot .factory).outcome = some outcome ∧
         (t.port .p).pending.getLsbD 12 = true ∧ t.transport.holder = .timer) ∧
       (s.transport.state = .record ∨ s.transport.state = .recPause ∨ s.transport.state = .stop →
         t.transport.state = .unthreading ∧ t.transport.intent = some .parked) ∧
       (s.transport.state = .inserting ∨ s.transport.state = .threading ∨ s.transport.state = .unthreading →
         t.transport.state = s.transport.state ∧ t.transport.intent = some .parked) ∧
       (s.transport.state = .parked ∨ s.transport.state = .empty ∨ s.transport.state = .ejecting →
         t.transport = s.transport))) ∧
  (∀ (b2 b3 b4 b5 b6 last : SlicerByte) (n : Nat) (o : Occurrence) (x : Slot) (s : State), s.serving o x →
     s.receiver.live = true → s.receiver.state = .collect →
     s.receiver.collecting = some ⟨some 7, [0x3C#8, b2, b3, b4, b5, b6]⟩ → s.tuner.source = .preset n → 1 ≤ n →
     n ≤ s.presets.length →
     let r := s.receiver
     let d := dateOf o.day
     let identity := 16 * b2.toNat + b3.toNat / 16
     let status : ProgStatus := match b3.toNat % 4 with
       | 0 => .running
       | 1 => .paused
       | 2 => .pending
       | _ => .ended
     let longest := if b5.toNat = 2 then 29 else if b5.toNat ∈ [4, 6, 9, 11] then 30 else 31
     1 ≤ b5.toNat → b5.toNat ≤ 12 → 1 ≤ b4.toNat → b4.toNat ≤ longest → b6.toNat ≤ 23 → last.toNat ≤ 59 →
     let record := s.presets.getD (n - 1) .factory
     record.identity = none ∨ record.identity = some identity →
     o.phase = .watch ∨ o.phase = .recording ∨ o.phase = .labelPaused → x.defn.label ≠ .off → o.label ≠ .fallback →
     let time := match x.defn.label with
       | .on (some (h, m)) => h * 60 + m
       | _ => x.defn.start
     let fits := d.day = b4.toNat ∧ d.month = b5.toNat ∧ b6.toNat * 60 + last.toNat = time
     let seen := { o with labelsSeen := true, lastLabel := some s.clock.now }
     let v := chooseSpeed s o
     let p := Packet.prog identity b4.toNat b5.toNat b6.toNat last.toNat status
     let ended := { r with state := .seekIdle, gapTimer := false, collecting := none, lastReason := .complete
                           quietTimer := true }
     let queued := if r.lastQueued = some p then ended
       else { ended with labels := (r.labels ++ [p]).drop (r.labels.length + 1 - 4), lastQueued := some p }
     let delivers := fun (t : State) => exec (.dataSlicerByte last true) s = .next t ∧ t.receiver = queued ∧
       t.tuner.source = s.tuner.source ∧ t.tuner.holder = s.tuner.holder
     let records := o.phase = .recording ∧ o.begun = true ∧ s.transport.state = .record
     let under := o.held = true ∧ s.transport.holder = .timer
     (status = .pending ∨ ¬ fits ∧ (status ≠ .running ∨ o.label ≠ .matched) →
       ∃ t, delivers t ∧ t.engine.current = some { seen with silence := o.label == .matched } ∧
         t.transport = s.transport) ∧
     (fits → status = .running → o.phase = .watch → o.begun = false → o.handover = false → under →
       s.transport.state = .stop → startCheck s o = none →
       ∃ t, delivers t ∧
         t.engine.current = some (begins { seen with label := .matched, silence := true } v s.clock.now) ∧
         t.transport.state = .record ∧ t.transport.recordSpeed = v ∧ t.transport.holder = .timer ∧
         (t.port .p).pending.getLsbD 11 = true) ∧
     (fits → status = .running → records →
       ∃ t, delivers t ∧ t.engine.current = some { seen with label := .matched, silence := true } ∧
         t.transport = s.transport) ∧
     (fits → status = .paused → records → under →
       ∃ t, delivers t ∧ t.transport.state = .recPause ∧ t.transport.holder = .timer ∧
         t.engine.current = some
           { seen with label := .matched, phase := .labelPaused, startDue := false, silence := true }) ∧
     (fits ∧ status = .ended ∨ ¬ fits ∧ status = .running ∧ o.label = .matched → records → under → o.noted = none →
       ∃ t, delivers t ∧ EndsWith seen { partialOutcome s o .power with verdict := .recorded } t))

/-! ## Power and store (chapter 9) -/

/-- POWER with no switch-off pending, an occurrence in progress or not but for an accepted OFF in ON: BAD_ARG (2) for arguments but 0 and 1, LOCKED (4) under the
lock; argument 0 is OFF (log entry 40). ON from STANDBY turns the relay on, writes the tuner and resets Link G, and in ON
changes only the flag; OFF is refused RANK (3) by R170's table, changes nothing but the flag in STANDBY, and in ON leaves ON
at once where the tape rests, a station search ending ABORTED first, else sends the tape to rest with the switch-off
pending. Every accepted one clears the raised flag.
From STANDBY main power is raised by an accepted PLAY at user rank, which then threads the parked tape, and by the
cassette switch closing in EMPTY, which raises CASSETTE (bit 2) on Link P first and goes on to INSERTING.
A pending switch-off, no occurrence being current. POWER ON withdraws it, and so do mains loss and a line reset; a POWER
OFF takes its place; and it is completed, with its cause, when the tape comes to rest: at PARKED after an unthreading, at
PARKED after an insertion, whose intent is then dropped and no auto-play begun (log entry 33), in EMPTY and in FAULT.
POWER OFF in ON with an occurrence current: a recording ends STOPPED_BY_USER and the tape is sent to PARKED under the
timer's hold; an occurrence that waits for a user's tape ends so at once and never takes the deck. The switch-off waits.
What the acceptance of a request does before the request acts: it then acts as in the state made ready. An accepted
transport or search request, and a CLEAR_FAULTS past its checks, raises main power from STANDBY, withdraws a switch-off of
cause USER_OFF and ends a running search ABORTED with SEARCH_END; an accepted tuner request ends a running station search
ABORTED with STATION_SEARCH_END and TUNER; an accepted POWER OFF in ON ends a running search ABORTED.
Readings of the model's own: log entries 13, 14, 21 and 45. -/
def Obligations.PowerRequested : Prop :=
  (∀ (l : Link) (r : Rank) (arg : Arg) (s : State), liveIn s.power.state l = true → s.undisturbed → WriterLaw s →
     let t := s.transport
     let refused := fun (code : Nat) => { s with ports := portsAfter s (some (l, refusedWith code)) 0 }
     let u := { s with power := { s.power with raised := false } }
     let v := poweredOn .request u
     let off := leftOn .userOff u
     let away := match t.holder, effectiveRank s l r with
       | .user _, .automatic | .timer, .automatic => true
       | _, _ => false
     let waits := fun (x : State) => { x with power := { x.power with pendingOff := some (.userOff l) } }
     (arg ≠ 0 → arg ≠ 1 → exec (.powerOn l r arg) s = .next (refused 2)) ∧
     exec (.powerOn l r 0) s = exec (.powerOff l r) s ∧
     (s.engine.lock = true → exec (.powerOn l r 1) s = .next (refused 4) ∧ exec (.powerOff l r) s = .next (refused 4)) ∧
     (s.engine.lock = false →
       (s.power.state = .standby → exec (.powerOn l r 1) s = .next
         { v with ports := portsPowered v (some (l, accepted 0)) (startingTuning u).isSome 0 }) ∧
       (s.power.state = .on → exec (.powerOn l r 1) s = .next
         { u with ports := portsAfter s (some (l, accepted 0)) 0 }) ∧
       (away = true → exec (.powerOff l r) s = .next (refused 3)) ∧
       (away = false → s.power.state = .standby → exec (.powerOff l r) s = .next
         { u with ports := portsAfter s (some (l, accepted 0)) 0 }) ∧
       (away = false → s.power.state = .on → s.position.search = none → s.quiet →
         (t.state = .parked ∨ t.state = .empty ∨ t.state = .fault → s.tuner.search = none →
           exec (.powerOff l r) s = .next
             { off with ports := ⟨portAfter s (if l = .p then some (l, accepted 0) else none) (leftKinds s) .p,
                                  { portAfter off none 0 .g with
                                    reply := if l = .g then accepted 0 else (s.port .g).reply }⟩ }) ∧
         (t.state = .parked ∨ t.state = .empty ∨ t.state = .fault →
           exec (.powerOff l r) s = exec (.powerOff l r) (stationDropped s)) ∧
         (t.state = .stop ∨ t.state.running = true →
           exec (.powerOff l r) s = .next
             { waits (sentToPark u) with ports := portsAfter s (some (l, accepted 0)) (parkKinds s) }) ∧
         (t.state = .threading ∨ t.state = .unthreading →
           exec (.powerOff l r) s = .next
             { waits (setIntent (some .parked) u) with ports := portsAfter s (some (l, accepted 0)) 0 }) ∧
         (t.state = .inserting ∨ t.state = .ejecting →
           exec (.powerOff l r) s = .next { waits u with ports := portsAfter s (some (l, accepted 0)) 0 })))) ∧
  (∀ (arg : Arg) (s : State), s.power.state = .standby → s.quiet → WriterLaw s →
     let v := poweredOn .transportRequest s
     let tuned := (startingTuning s).isSome
     let w := poweredOn .insertion { s with pins := { s.pins with cassetteClosed := true } }
     let after := portsPowered w none tuned 0x00001#18
     (s.transport.state = .parked → transportRefusal s .user .play = none → s.position.search = none →
       s.transport.holder ≠ .timer →
       exec (.play .p .user arg) s = .next
         { enter .threading (setIntent (some .play) { v with transport := { v.transport with holder := .user .p } }) with
           ports := portsPowered v (some (.p, accepted 0)) tuned (enterKinds .threading s) }) ∧
     (s.transport.state = .empty → s.gauge.estimate ≠ .current →
       exec .cassetteSwitchCloses s = .next
         { enter .inserting w with
           ports := { after with p := portAfter w none (0x04005#18 ||| if tuned then 0x00080#18 else 0) .p } })) ∧
  (∀ (l : Link) (r : Rank) (c : SwitchOff) (tab : Bool) (x : Readings) (s : State), s.power.state = .on →
     s.engine.current = none → s.engine.judgeDue = false → s.power.pendingOff = some c → WriterLaw s →
     s.position.search = none → s.tuner.search = none →
     let cause : PowerCause := match c with
       | .userOff _ => .userOff
       | .lock => .lock
       | .timerReturn => .timerReturn
     let away := match s.transport.holder, effectiveRank s l r with
       | .user _, .automatic | .timer, .automatic => true
       | _, _ => false
     let u := enter .parked s
     let parked := leftOn cause { u with transport := released u.transport }
     let v := enter .parked
       { s with transport := { s.transport with tab := if tab then .present else .absent }
                gauge := { s.gauge with active := some s.settings.defaultClass } }
     let inserted := leftOn cause { v with transport := released { v.transport with intent := none } }
     let after := fun (off : State) (ks : KindSet) =>
       { off with ports := ⟨portAfter s none (enterKinds .parked s ||| leftKinds s ||| ks) .p, portAfter off none 0 .g⟩ }
     let completes := fun (cmd : Instr) (rest : TState) =>
       ∃ t, exec cmd s = .next t ∧ t.transport.state = rest ∧
         t.power = { s.power with state := .standby, raised := false, pendingOff := none
                                  lastChange := some ⟨.on, .standby, cause⟩ } ∧
         t.outputs.relay = false ∧ t.tuner.lock = .off
     (s.engine.lock = false → exec (.powerOn l r 1) s = .next
       { s with power := { s.power with raised := false, pendingOff := none }
                ports := portsAfter s (some (l, accepted 0)) 0 }) ∧
     (s.engine.lock = false → away = false → s.transport.state = .unthreading → exec (.powerOff l r) s = .next
       { setIntent (some .parked) s with
         power := { s.power with raised := false, pendingOff := some (.userOff l) }
         ports := portsAfter s (some (l, accepted 0)) 0 }) ∧
     (s.transport.state = .unthreading → s.transport.intent = some .parked →
       exec (.parkedSwitchCloses tab) s = .next (after parked 0)) ∧
     (s.transport.state = .inserting → exec (.parkedSwitchCloses tab) s = .next (after inserted 0x00004#18)) ∧
     (s.transport.state = .ejecting → completes .cassetteSwitchOpens .empty) ∧
     (s.transport.state = .unthreading → s.transport.motion = .unthread → completes .unthreadTimeout .fault) ∧
     (∃ t, exec .mainsLoss s = .next t ∧ t.power.state = .hold ∧ t.power.pendingOff = none) ∧
     (∃ t, exec (.lineReset x) s = .next t ∧ t.power.state = .on ∧ t.power.pendingOff = none)) ∧
  (∀ (l m : Link) (r : Rank) (o : Occurrence) (x : Slot) (s : State), s.power.state = .on → s.undisturbed → WriterLaw s →
     s.engine.lock = false → effectiveRank s l r = .user → s.engine.current = some o → o.orphan = false →
     s.slots[o.slot]? = some x → x.inUse = true → s.position.search = none →
     let outcome : OutcomeRecord := ⟨.stoppedByUser, o.day, o.speed, minutesOf o.recorded⟩
     let slot := fun (t : State) => t.slots.getD o.slot .factory
     let off := { s.power with raised := false, pendingOff := some (.userOff l) }
     (o.phase = .recording → o.held = true → s.transport.holder = .timer → s.transport.state = .record →
       ∃ t, exec (.powerOff l r) s = .next t ∧ t.transport.state = .unthreading ∧ t.transport.intent = some .parked ∧
         t.transport.holder = .timer ∧ t.power = off ∧ (slot t).outcome = some outcome ∧
         t.engine.current = some { o with phase := .ending, silence := false, startDue := false, resumeDue := false }) ∧
     (o.phase = .waiting → o.held = false → s.transport.holder = .user m → s.transport.state.running = true →
       s.clock.correction = none → s.noneStoppedBy s.now → (withoutCurrent o.slot outcome s).calm →
       ∃ t, exec (.powerOff l r) s = .next t ∧ t.transport.state = .unthreading ∧ t.transport.intent = some .parked ∧
         t.transport.holder = .user m ∧ t.power = off ∧ (slot t).outcome = some outcome ∧ t.engine.current = none ∧
         t.tuner = s.tuner)) ∧
  (∀ (l : Link) (r : Rank) (arg : Arg) (a : Ask) (s : State), liveIn s.power.state l = true →
     let rank := effectiveRank s l r
     let target := (arg.extractLsb' 0 22).toInt
     let inRange := decide (arg.toNat < 8388608 ∧ target.natAbs ≤ (boundOf s.settings.standard).natAbs)
     let ahead := if target = s.position.counter then none else some (decide (s.position.counter < target))
     let count := decide (1 ≤ arg.toInt.natAbs ∧ arg.toInt.natAbs ≤ 20)
     let stored := fun (n : Nat) => (s.presets.getD (n - 1) .factory).stored
     let away := match s.transport.holder, rank with
       | .user _, .automatic | .timer, .automatic => true
       | _, _ => false
     (transportRefusal s rank a = none → exec (a.command l r arg) s = exec (a.command l r arg) (readied s)) ∧
     (searchRefusal s rank inRange ahead = none →
       exec (.searchCounter l r arg) s = exec (.searchCounter l r arg) (readied s)) ∧
     (searchRefusal s rank count (some (decide (0 < arg.toInt))) = none →
       exec (.searchIndex l r arg) s = exec (.searchIndex l r arg) (readied s)) ∧
     (s.engine.lock = false → s.power.state = .on ∨ rank = .user → holderTurnsAway s.transport.holder rank .play = false →
       s.protection.faults.ejectJam = false →
       exec (.clearFaults l r arg) s = exec (.clearFaults l r arg) (readied s)) ∧
     (tunerRefusal s rank false = none →
       (1 ≤ arg.toNat ∧ arg.toNat ≤ 60 ∧ stored arg.toNat = true ∨
           (arg = 61 ∨ arg = 62) ∧ (s.presets.take 60).any (fun p => p.stored && !p.skip) = true →
         exec (.selectPreset l r arg) s = exec (.selectPreset l r arg) (stationDropped s)) ∧
       (arg = 0 ∨ arg = 1 → exec (.searchStation l r arg) s = exec (.searchStation l r arg) (stationDropped s)) ∧
       ((dividerOf arg.toNat).isSome = true → s.presets.any (fun p => !p.stored && p.name.isEmpty) = true →
         exec (.searchStore l r arg) s = exec (.searchStore l r arg) (stationDropped s))) ∧
     (tunerRefusal s rank true = none → 1 ≤ arg.toInt.natAbs ∧ arg.toInt.natAbs ≤ 63 →
       (∃ n, s.tuner.source = .preset n ∧ stored n = true) →
       exec (.tuneStep l r arg) s = exec (.tuneStep l r arg) (stationDropped s)) ∧
     (s.engine.lock = false → away = false → s.power.state = .on →
       exec (.powerOff l r) s = exec (.powerOff l r) (searchDropped s)))

/-- The writer. An acknowledgement leaves the copy stored with its sum, the total of its bytes modulo 65,536, clears the failed flag, and raises STORE (bit 15) where no
area is left dirty; 250 ms without one mark the area dirty and failed, STORE where it was not failed, and leave in the store
what the free value tells (log entry 8). Either way the area is the last written, and outside HOLD the next dirty area after
it, in the fixed order, is taken.
WRITE_SETTING but for *timer on*: the value clamped to the setting's range and echoed; *guide relays keys* is refused
RANK (3) on Link G; a value already held changes nothing; a change makes SETTINGS dirty and is handed on: *system standard*
rezeroes the counter, *G100* clears the estimate, *timebase* chooses the source, *auto clock* off drops the broadcast's
state. -/
def Obligations.StoreAndSettingsWritten : Prop :=
  (∀ (c : AreaCopy) (s : State), s.store.writer = some c →
     let a := match c with
       | .presets _ => Area.presets
       | .events _ => .events
       | .settings _ => .settings
       | .classes _ => .classes
     let st := s.store
     let round := match a with
       | .presets => [Area.events, .settings, .classes, .presets]
       | .events => [.settings, .classes, .presets, .events]
       | .settings => [.classes, .presets, .events, .settings]
       | .classes => [.presets, .events, .settings, .classes]
     let goesOn : State → State := fun u =>
       match round.find? (flagOf u.store.dirty) with
       | some b =>
         if u.power.state = PowerState.hold then u
         else { u with store := { u.store with dirty := putFlag b false u.store.dirty, writer := some (copyOf u b) } }
       | none => u
     let acked := goesOn
       { s with
         store := { st with writer := none, failed := putFlag a false st.failed, last := some a }
         nv := match c with
           | .presets t => { s.nv with presets := ⟨t, total (presetBytes t) % 65536⟩ }
           | .events t => { s.nv with events := ⟨t, total (eventBytes t) % 65536⟩ }
           | .settings t => { s.nv with settings := ⟨t, total (settingBytes t) % 65536⟩ }
           | .classes t => { s.nv with classes := ⟨t, total (classBytes t) % 65536⟩ } }
     let left := { s with
         store := { st with writer := none, failed := putFlag a true st.failed, dirty := putFlag a true st.dirty,
                            last := some a }
         nv := s.nv.receive (Config.storeResidue s.draws) c
         draws := s.draws + 1 }
     let clean := !(st.dirty.presets || st.dirty.events || st.dirty.settings || st.dirty.classes)
     exec .storeWriteAck s = .next { acked with ports := portsAfter s none (if clean then 0x08000#18 else 0) } ∧
     exec .storeWriteTimeout s = .next
       { goesOn left with ports := portsAfter s none (if flagOf st.failed a then 0 else 0x08000#18) }) ∧
  (∀ (l : Link) (r : Rank) (number : Selector) (value : Value) (s : State), liveIn s.power.state l = true → s.undisturbed →
     WriterLaw s → number ≠ 15 → s.position.search = none →
     let n := number.toNat
     let range := match n with
       | 3 => (0, 7)
       | 4 => (150, 2500)
       | 9 => (1, 15)
       | 10 => (1, 30)
       | 11 => (0, 180)
       | 12 | 13 => (0, 2)
       | _ => (0, 1)
     let v := max range.1 (min range.2 value.toNat)
     let x := s.settings
     let code := fun (b : Bool) => if b then 1 else 0
     let speed := fun (k : Nat) => if k = 0 then Speed.sp else if k = 1 then .lp else .ep
     let held := match n with
       | 0 => if x.standard = .f25 then 0 else 1
       | 1 => code x.mains60
       | 2 => if x.timebase = .mains then 0 else 1
       | 3 => x.defaultClass
       | 4 => x.g100
       | 5 => code x.autoRewind
       | 6 => code x.autoPlay
       | 7 => code x.indexWrite
       | 8 => code x.autoClock
       | 9 => x.lead
       | 10 => x.labelLead
       | 11 => x.extension
       | 12 => x.fallbackSpeed.code
       | 13 => x.manualSpeed.code
       | _ => code x.guideRelays
     let taken := match n with
       | 0 => { x with standard := if v = 0 then .f25 else .f30 }
       | 1 => { x with mains60 := v == 1 }
       | 2 => { x with timebase := if v = 0 then .mains else .crystal }
       | 3 => { x with defaultClass := v }
       | 4 => { x with g100 := v }
       | 5 => { x with autoRewind := v == 1 }
       | 6 => { x with autoPlay := v == 1 }
       | 7 => { x with indexWrite := v == 1 }
       | 8 => { x with autoClock := v == 1 }
       | 9 => { x with lead := v }
       | 10 => { x with labelLead := v }
       | 11 => { x with extension := v }
       | 12 => { x with fallbackSpeed := speed v }
       | 13 => { x with manualSpeed := speed v }
       | _ => { x with guideRelays := v == 1 }
     let u := areaChanged .settings { s with settings := taken }
     let source := if taken.timebase = .mains then Source.mains else .crystal
     let handed := match n with
       | 0 => { u with position := { s.position with counter := 0, index := [], pendingMark := false } }
       | 1 | 2 => { u with clock := { s.clock with source := source } }
       | 4 => { u with gauge := { s.gauge with ring := [], entries := 0, estimate := .none, fraction := none
                                               remainingSp := none } }
       | 8 => if v = 0 then { u with clock := { s.clock with candidate := none, correction := none } } else u
       | _ => u
     let echo := some (l, accepted (number ++ BitVec.ofNat 20 v))
     exec (.writeSetting l r number value) s = .next
       (if n = 14 ∧ l = .g then { s with ports := portsAfter s (some (l, refusedWith 3)) 0 }
       else if held = v then { s with ports := portsAfter s echo 0 }
       else { handed with
         ports := portsAfter s echo (if n = 4 ∧ s.gauge.estimate ≠ .none then 0x00020#18 else 0) }))

/-- Mains loss, from STANDBY or ON: HOLD with the relay off and no output driven; a running tape is at rest in STOP, the
transport's timers and intent gone with its holder and faults kept; the reels unsupervised; the clock on the crystal; the
tuner and the receiver off where main power was ON; an occurrence in progress kept, with POWER noted once recording has
begun; no attention line asserted.
Mains restore with no occurrence current: STANDBY with POWER (bit 14) on Link P, the raised flag cleared, the clock's
time untouched and its source chosen again, the transport recovered from its switches, the due list taken again; where
the cassette switch is open the lock goes, and the estimate too; a deck found EMPTY has its counter 0 and its index list
empty, and otherwise both stand (log entry 16). Each slot with a window that passed
in HOLD is judged once, MISSED(POWER), for the latest date passed after the last served, with TIMER_END (bit 12) and
EVENT_TABLE (bit 10).
Readings of the model's own: log entries 7, 29 and 42. -/
def Obligations.MainsLostAndRestored : Prop :=
  (∀ s : State, s.power.state ≠ .hold → s.undisturbed → WriterLaw s → s.position.search = none →
     s.tuner.search = none →
     let u := if s.transport.state.running then enter .stop s else s
     let on := s.power.state == .on
     let off := if on then leftOn .mainsLoss u else u
     let noted := fun (o : Occurrence) =>
       { o with silence := false, noted := if o.actualStart.isSome ∧ o.noted = none then some .power else o.noted }
     exec .mainsLoss s = .next
       { off with
         power := { s.power with state := .hold, pendingOff := none, lastChange := some ⟨s.power.state, .hold, .mainsLoss⟩ }
         transport := { u.transport with intent := none, oneTouch := none, motion := .stopped, limit := .stopped, drum := .off }
         outputs := { capstan := .halt, reel := .off, brake := false, recordEnable := false, loading := .off
                      threading := .off, strobe := false, relay := false
                      tunerWord := if on then none else s.outputs.tunerWord }
         reels := { u.reels with supplyRef := none, takeUpRef := none, supervised := none, stallTimer := none, burst := .none }
         clock := { s.clock with source := .crystal, candidate := none }
         engine := { s.engine with powerReturn := false, current := s.engine.current.map noted }
         ports := ⟨{ s.port .p with frame := none, outgoing := 0, attention := false },
           { s.port .g with
             frame := none, outgoing := 0, attention := false, pending := if on then 0 else (s.port .g).pending }⟩ }) ∧
  (∀ (x : Readings) (s : State), s.power.state = .hold → s.power.coldPending = false → s.engine.current = none →
     s.power.pendingOff = none → s.passedInUse s.now → (judgedPassed .power s).calm →
     let jam := s.protection.faults.threadJam || s.protection.faults.unthreadJam || s.protection.faults.ejectJam
     let found : TState := if jam then .fault else if x.cassetteClosed = false then .empty
       else if x.parkedClosed then .parked else .unthreading
     ∃ t, exec (.mainsRestore x) s = .next t ∧
       t.power = { s.power with state := .standby, raised := false
                                lastChange := some ⟨.hold, .standby, .mainsRestore⟩ } ∧
       t.transport.state = found ∧
       t.transport.intent = (if found = .unthreading then some .parked else none) ∧
       t.transport.tab = (if x.cassetteClosed = false then (if jam then s.transport.tab else .unknown)
         else if x.tabPresent then .present else .absent) ∧
       t.gauge = (if x.cassetteClosed = false then { Gauge.reset with classes := s.gauge.classes }
         else { s.gauge with ring := [], entries := 0, active := some (s.gauge.active.getD s.settings.defaultClass)
                             estimate := if s.gauge.estimate = .current then .held else s.gauge.estimate }) ∧
       t.position.counter = (if found = .empty then 0 else s.position.counter) ∧
       t.position.index = (if found = .empty then [] else s.position.index) ∧
       t.pins = { s.pins with cassetteClosed := x.cassetteClosed, tapeStart := x.tapeStart, tapeEnd := x.tapeEnd } ∧
       t.clock = { s.clock with source := s.settings.timebase } ∧
       t.engine = { s.engine with
         lock := s.engine.lock && x.cassetteClosed, due := dueListOf (judgedPassed .power s), judgeDue := false } ∧
       t.slots = missedTable .power s ∧
       (missedSlots .power s.now s ≠ s.slots →
         (t.port .p).pending.getLsbD 12 = true ∧ (t.port .p).pending.getLsbD 10 = true) ∧
       (t.port .p).pending.getLsbD 14 = true ∧ (t.port .p).pending.getLsbD 0 = true ∧
       ((t.port .p).pending.getLsbD 2 = true ↔
         (s.port .p).pending.getLsbD 2 = true ∨ (s.transport.state = .empty ↔ x.cassetteClosed = true)) ∧
       (t.port .g).attention = false ∧
       Untouched [.transport, .outputs, .pins, .position, .reels, .gauge, .clock, .slots, .engine, .power, .store, .nv,
         .ports] s t)

/-- A cold start: each area loaded from the store where its sum is right and its defaults otherwise, dirty and named; the
clock UNSET at 1990-01-01 00:00:00; STANDBY with the transport recovered, or HOLD without mains; Link P initial, with STORE
(bit 15) where defaults were loaded; the waiting commands stay.
The first presence of mains after a cold start without it: STANDBY, the transport recovered from its switches, and Link P
initial with POWER (bit 14) raised, STORE (bit 15) too where an area holds its defaults; the engine and the four tables
stand.
A line reset with no occurrence current: the power state, the clock's running, the four stored tables and the store
stand; the counter, the index list, the reels, the estimate and the faults return to their initial values, the lock goes and
the mode is *timer on*; the transport recovers; Link P's port is initial but for the kinds that the reset itself raises, and
Link G's with main power ON; in STANDBY its two work records are (log entry 41); with main power ON the lowest qualifying
preset is applied. In HOLD it is not taken.
A line reset with an occurrence current ends it PARTIAL(RESET), whatever its phase, ENDING too (log entry 36): the
outcome, TIMER_END (bit 12) and TIMER_STATE (bit 13) on Link P, no Stop and no Park, and the deck recovered with no holder.
Readings of the model's own: log entries 7, 8, 28 and 29. -/
def Obligations.ColdStartAndLineReset : Prop :=
  (∀ (mains : Bool) (x : Readings) (failed : AreaFlags) (s : State),
     let cut := fun (a : Area) => s.store.writer.any fun c => c.area == a
     let n := s.nv
     let bad : AreaFlags :=
       ⟨failed.presets || cut .presets || n.presets.sum != total (presetBytes n.presets.copy) % 65536,
         failed.events || cut .events || n.events.sum != total (eventBytes n.events.copy) % 65536,
         failed.settings || cut .settings || n.settings.sum != total (settingBytes n.settings.copy) % 65536,
         failed.classes || cut .classes || n.classes.sum != total (classBytes n.classes.copy) % 65536⟩
     let settings := if bad.settings then Settings.factory else s.nv.settings.copy
     let slots := if bad.events then factorySlots else s.nv.events.copy
     let some_ := bad.presets || bad.events || bad.settings || bad.classes
     ∃ t, exec (.coldStart mains x failed) s = .next t ∧
       t.presets = (if bad.presets then factoryPresets else s.nv.presets.copy) ∧ t.settings = settings ∧
       t.gauge.classes = (if bad.classes then factoryClasses else s.nv.classes.copy) ∧
       t.slots.map (fun y => { y with conflict := false }) = slots.map (fun y => { y with conflict := false }) ∧
       t.store.defaults = bad ∧ t.store.failed = ⟨false, false, false, false⟩ ∧
       t.clock = { Clock.reset with source := if mains then settings.timebase else .crystal } ∧
       t.power = ⟨if mains then .standby else .hold, false, none, none, !mains⟩ ∧
       t.engine = ⟨settings.timerOn, false, [], none, false, false⟩ ∧ t.protection = ⟨Faults.none, 0⟩ ∧
       t.tuner = Tuner.reset ∧ t.receiver = Receiver.reset ∧ t.pending = s.pending ∧
       (mains = true → t.transport.state = (if x.cassetteClosed = false then .empty
         else if x.parkedClosed then .parked else .unthreading) ∧
         t.gauge.active = (if x.cassetteClosed then some settings.defaultClass else none) ∧
         (t.port .p).mask = 0 ∧ (t.port .p).pending = (if some_ then 0x08000#18 else 0)) ∧
       (some_ = true → mains = true → t.store.writer ≠ none) ∧
       (failed = ⟨false, false, false, false⟩ → s.store.writer = none → t.nv = n)) ∧
  (∀ (x : Readings) (s : State), s.power.state = .hold → s.power.coldPending = true → s.engine.current = none →
     s.engine.judgeDue = false → s.power.pendingOff = none → s.protection.faults = Faults.none →
     let d := s.store.defaults
     let found : TState := if x.cassetteClosed = false then .empty else if x.parkedClosed then .parked else .unthreading
     ∃ t, exec (.mainsRestore x) s = .next t ∧
       t.power = { s.power with state := .standby, raised := false, coldPending := false
                                lastChange := some ⟨.hold, .standby, .mainsRestore⟩ } ∧
       t.transport.state = found ∧ t.transport.intent = (if found = .unthreading then some .parked else none) ∧
       t.transport.tab = (if x.cassetteClosed = false then .unknown
         else if x.tabPresent then .present else .absent) ∧
       t.pins = { s.pins with cassetteClosed := x.cassetteClosed, tapeStart := x.tapeStart, tapeEnd := x.tapeEnd } ∧
       t.clock = { s.clock with source := s.settings.timebase, staged := s.clock.staged.put .p none
                                snapshot := s.clock.snapshot.put .p none } ∧
       t.port .p = { freshPort s with
         pending := if d.presets || d.events || d.settings || d.classes then 0x0C000#18 else 0x04000#18
         attention := true } ∧
       t.port .g = { s.port .g with attention := false } ∧
       Untouched [.transport, .outputs, .pins, .position, .reels, .gauge, .clock, .receiver, .power, .store, .ports] s t) ∧
  (∀ (x : Readings) (s : State), s.engine.current = none → WriterLaw s →
     let clean := { s with engine := { s.engine with mode := s.settings.timerOn, lock := false } }
     let tuned := s.presets.findIdx? fun p => p.stored && !p.skip
     let told := s.tuner.source != .none || s.tuner.base != 1658 || s.tuner.present || s.tuner.lock == .lost ||
       s.tuner.holder != .none
     let ks : KindSet := 0x00001#18 ||| (if s.protection.faults.any then 0x00002#18 else 0) |||
       (if (s.transport.state = .empty ↔ x.cassetteClosed = true) then 0x00004#18 else 0) |||
       (if s.gauge.estimate ≠ .none then 0x00020#18 else 0) |||
       (if told ∨ s.power.state = .on ∧ tuned.isSome then 0x00080#18 else 0) |||
       (if s.engine.lock = true ∨ s.engine.mode ≠ s.settings.timerOn then 0x02000#18 else 0)
     let fresh := { freshPort s with pending := ks, attention := true }
     (s.power.state = .hold → s.undisturbed → AttentionLaw s → exec (.lineReset x) s = .next s) ∧
     (s.power.state ≠ .hold → clean.calm →
       ∃ t, exec (.lineReset x) s = .next t ∧
         t.power = { s.power with raised := false, pendingOff := none, lastChange := none } ∧
         t.clock = { s.clock with source := s.settings.timebase, staged := ⟨none, none⟩, snapshot := ⟨none, none⟩,
                                  candidate := none, correction := none, verdict := .none } ∧
         t.position = Position.reset ∧ t.protection = ⟨Faults.none, 0⟩ ∧ t.reels = ReelMonitor.reset ∧
         t.gauge = { Gauge.reset with
           classes := s.gauge.classes, active := if x.cassetteClosed then some s.settings.defaultClass else none } ∧
         t.transport = { Transport.reset with
           state := if x.cassetteClosed = false then .empty else if x.parkedClosed then .parked else .unthreading
           intent := if x.cassetteClosed = true ∧ x.parkedClosed = false then some .parked else none
           motion := if x.cassetteClosed = true ∧ x.parkedClosed = false then .unthread else .stopped
           tab := if x.cassetteClosed = false then .unknown else if x.tabPresent then .present else .absent } ∧
         t.engine = ⟨s.settings.timerOn, false, dueListOf clean, none, false, false⟩ ∧
         t.ports = ⟨fresh, if s.power.state = .on then fresh else
           { s.port .g with eventWork := (freshPort s).eventWork, presetWork := (freshPort s).presetWork
                            attention := false }⟩ ∧
         (s.power.state = .standby → t.tuner = Tuner.reset ∧ t.receiver = Receiver.reset) ∧
         (s.power.state = .on → t.tuner.source = (match tuned with
           | some i => .preset (i + 1)
           | none => .none)) ∧
         Untouched [.transport, .protection, .outputs, .pins, .position, .reels, .gauge, .clock, .tuner, .receiver, .engine,
           .power, .ports] s t)) ∧
  (∀ (x : Readings) (o : Occurrence) (y : Slot) (s : State), s.power.state ≠ .hold → WriterLaw s →
     s.engine.current = some o → o.orphan = false → s.slots[o.slot]? = some y → y.inUse = true →
     let outcome := partialOutcome s o .reset
     let clean := { s with engine := { s.engine with mode := s.settings.timerOn, lock := false } }
     (withoutCurrent o.slot outcome clean).calm →
     ∃ t, exec (.lineReset x) s = .next t ∧ (t.slots.getD o.slot .factory).outcome = some outcome ∧
       (y.defn.rep = .once → (t.slots.getD o.slot .factory).defn.enabled = false) ∧
       t.engine.current = none ∧ t.engine.mode = s.settings.timerOn ∧ t.engine.lock = false ∧
       t.engine.powerReturn = false ∧ t.transport.holder = .none ∧ t.tuner.holder = .none ∧
       t.transport.state = (if x.cassetteClosed = false then .empty else if x.parkedClosed then .parked else .unthreading) ∧
       t.power = { s.power with raised := false, pendingOff := none, lastChange := none } ∧
       (t.port .p).pending.getLsbD 12 = true ∧ (t.port .p).pending.getLsbD 13 = true)

/-! ## What disturbs an occurrence (chapter 8) -/

/-- Under the timer's hold: the tape's end and a protective fault end a recording PARTIAL(TAPE_END) and PARTIAL(FAULT),
the reason noted; a jam ends a start that never recorded MISSED(FAULT), and before the Record request leaves the watch as
it is. The record-pause limit leaves a label pause as it is. A recording it takes to STOP, and the engine's Record
request resumes it at the speed chosen: a recording start from STOP, its mark pending under *index write* (R42). The stopped-threaded limit changes nothing in WATCH.
Mains restore with an occurrence in progress and a cassette in the deck. With the stop ahead main power comes ON, the
flag as it was: in RECORDING and LABEL_PAUSED the label state falls back from MATCHED, and once the tape is parked the
engine's Record request goes out, its mark flag clear, at the speed chosen or, where no start was sent yet, chosen then;
a watch goes on, its start judged where it has passed; WAITING takes. With the stop passed it ends PARTIAL(POWER), or
MISSED(POWER) before it began, and main power stays STANDBY.
One waiting for the tape to park gets that request when it does, and threads toward RECORD.
A clock step forward past the stop ends a watch or a wait MISSED(CLOCK_STEP), and a recording as at its stop; past the start
a watch has the start judged. Backward the occurrence goes on as it is, but before the stop an extension is over, and
before the start a watch whose clock start awaits an insertion goes on (log entries 49, 54).
Requests that reach a recording: TIMER_ON_OFF 0 and the deletion of its slot end it STOPPED_BY_USER, the deleted slot
free, and the first sets the mode OFF at once (model's choice, log entry 58); a store of a new stop minute
moves its stop, an extension over (log entry 56), and ends it where that has passed; one that turns enabled off alone
changes nothing of it; one that changes more is refused BUSY (5).
Readings of the model's own: log entries 11, 13, 23, 25, 26, 34, 44, 50, 56, 58 and 60. -/
def Obligations.OccurrenceDisturbed : Prop :=
  (∀ (o : Occurrence) (x : Slot) (s : State), s.serving o x → o.held = true → s.transport.holder = .timer →
     let noting := fun (n : Noted) => { o with noted := if o.noted = none then some n else o.noted }
     let f := s.protection.faults
     let v := (partialOutcome s o .power).speed
     (o.phase = .recording → o.begun = true → s.transport.state = .record →
       (∃ t, exec (.tapeEndSensorActive true) s = .next t ∧ (t.port .p).pending.getLsbD 3 = true ∧
         EndsWith (noting .tapeEnd) (partialOutcome s o .tapeEnd) t) ∧
       (o.startSent = true → s.transport.drum = .lost → f.drumFault = false →
         ∃ t, exec .drumLostTimeout s = .next t ∧ t.protection.faults = { f with drumFault := true } ∧
           EndsWith (noting .fault) (partialOutcome s o .fault) t) ∧
       (o.startSent = true → s.reels.stallTimer ≠ none → f.reelStall = false →
         ∃ t, exec .stallTimerExpiry s = .next t ∧ t.protection.faults = { f with reelStall := true } ∧
           EndsWith (noting .fault) (partialOutcome s o .fault) t)) ∧
     (s.transport.state = .threading → s.transport.motion = .threadSecond → o.begun = false →
       (o.phase = .recording → o.startSent = true → s.tuner.holder = .timer → s.clock.correction = none →
         s.noneStoppedBy s.now → (withoutCurrent o.slot (missedOutcome o .fault) s).calm →
         ∃ t, exec .threadTimeout s = .next t ∧ t.transport.state = .fault ∧ t.transport.holder = .none ∧
           t.tuner.holder = .none ∧ t.engine.current = none ∧ (t.port .p).pending.getLsbD 12 = true ∧
           (t.slots.getD o.slot .factory).outcome = some (missedOutcome o .fault)) ∧
       (o.phase = .watch → o.startSent = false →
         ∃ t, exec .threadTimeout s = .next t ∧ t.transport.state = .fault ∧ t.transport.holder = .timer ∧
           t.engine.current = some o)) ∧
     (s.transport.limit = .recPause → s.transport.state = .recPause → o.begun = true →
       (o.phase = .labelPaused →
         ∃ t, exec .recPauseLimit s = .next t ∧ t.transport.state = .stop ∧ t.transport.holder = .timer ∧
           t.engine.current = some o) ∧
       (o.phase = .recording → s.transport.tab ≠ .absent → s.pins.tapeEnd = false → f.reelStall = false →
         f.drumFault = false →
         ∃ t, exec .recPauseLimit s = .next t ∧ t.transport.state = .record ∧ some t.transport.recordSpeed = v ∧
           t.transport.holder = .timer ∧ t.engine.current = some { o with resumeDue := false } ∧
           t.position.pendingMark = (s.position.pendingMark || s.settings.indexWrite))) ∧
     (s.transport.limit = .stopThreaded → s.transport.state = .stop → o.phase = .watch →
       ∃ t, exec .stopThreadedLimit s = .next t ∧ t.transport.state = .unthreading ∧
         t.transport.intent = some .parked ∧ t.transport.holder = .timer ∧ t.engine.current = some o)) ∧
  (∀ (m : Link) (rd : Readings) (o : Occurrence) (x : Slot) (s : State), s.power.state = .hold →
     s.power.coldPending = false → s.power.pendingOff = none → s.engine.current = some o → o.orphan = false →
     s.slots[o.slot]? = some x → x.inUse = true → s.position.search = none → s.tuner.search = none →
     s.noneStoppedBy s.now → s.protection.faults = Faults.none → rd.cassetteClosed = true →
     let resumed : Occurrence := { o with
       label := if o.label = .matched then .fallback else o.label, startDue := false, phase := .recording }
     let sent := o.begun || o.startSent
     let v := o.speed.getD (if sent then (partialOutcome s o .power).speed.getD .sp else chooseSpeed s o)
     let on := fun (t : State) => t.power =
       { s.power with state := .on, lastChange := some ⟨.standby, .on, .timer⟩ }
     let timed := s.transport.holder = .timer ∧ s.tuner.holder = .timer
     let outcome := if o.begun then partialOutcome s o .power else missedOutcome o .power
     let stays := fun (t : State) =>
       t.power = { s.power with state := .standby, raised := false, lastChange := some ⟨.hold, .standby, .mainsRestore⟩ }
     (s.now < o.extension.getD o.stop →
       (o.phase = .recording ∨ o.phase = .labelPaused → timed →
         (rd.parkedClosed = true → rd.tabPresent = true → rd.tapeEnd = false →
           ∃ t, exec (.mainsRestore rd) s = .next t ∧ on t ∧ t.transport.state = .threading ∧
             t.transport.intent = some (.record (.engine v false)) ∧ t.transport.holder = .timer ∧
             t.engine.current = some { resumed with
               resumeDue := false, startSent := o.startSent || !o.begun, speed := if sent then o.speed else some v }) ∧
         (rd.parkedClosed = false →
           ∃ t, exec (.mainsRestore rd) s = .next t ∧ on t ∧ t.transport.state = .unthreading ∧
             t.transport.intent = some .parked ∧ t.transport.holder = .timer ∧
             t.engine.current = some { resumed with phase := o.phase, resumeDue := true })) ∧
       (o.phase = .watch → o.held = true → timed → o.startDue = false → o.startSent = false →
         (s.now < o.start → o.resumeDue = false →
           ∃ t, exec (.mainsRestore rd) s = .next t ∧ on t ∧ t.engine.current = some o ∧ t.transport.holder = .timer) ∧
         (o.start ≤ s.now → x.defn.label = .off → rd.parkedClosed = true → rd.tabPresent = true → rd.tapeEnd = false →
           (s.presets.getD (x.defn.preset - 1) .factory).stored = true →
           ∃ t, exec (.mainsRestore rd) s = .next t ∧ on t ∧ t.transport.state = .threading ∧
             t.transport.intent = some (.record (.engine (chooseSpeed s o) true)) ∧
             t.engine.current = some { o with phase := .recording, speed := some (chooseSpeed s o), handover := false,
                                              startSent := true })) ∧
       (o.phase = .waiting → o.held = false → o.startDue = false → s.transport.holder = .user m → s.tuner.holder = .none →
         rd.parkedClosed = true → s.now < o.start → s.now < o.stop →
         ∃ t, exec (.mainsRestore rd) s = .next t ∧ on t ∧ t.transport.state = .threading ∧
           t.transport.intent = some .stop ∧ t.transport.holder = .timer ∧ t.tuner.holder = .timer ∧
           t.engine.current = some { o with phase := .watch, held := true })) ∧
     (o.extension.getD o.stop ≤ s.now → o.held = true → timed → o.phase ≠ .ending → o.phase ≠ .waiting →
       (rd.parkedClosed = false → ∃ t, exec (.mainsRestore rd) s = .next t ∧ stays t ∧ EndsWith o outcome t) ∧
       (rd.parkedClosed = true → s.clock.correction = none → (withoutCurrent o.slot outcome s).calm →
         ∃ t, exec (.mainsRestore rd) s = .next t ∧ stays t ∧ t.transport.state = .parked ∧ t.transport.holder = .none ∧ t.tuner.holder = .none ∧
           t.engine.current = none ∧ t.engine.powerReturn = (o.powerRaised || s.engine.powerReturn) ∧
           (t.slots.getD o.slot .factory).outcome = some outcome))) ∧
  (∀ (tab : Bool) (o : Occurrence) (x : Slot) (s : State), s.serving o x → o.phase = .recording ∨ o.phase = .labelPaused →
     o.resumeDue = true → o.startDue = false → s.transport.holder = .timer →
     s.transport.state = .unthreading → s.transport.intent = some .parked → s.transport.tab ≠ .absent →
     s.pins.tapeEnd = false → s.protection.faults = Faults.none →
     let sent := o.begun || o.startSent
     let v := o.speed.getD (if sent then (partialOutcome s o .power).speed.getD .sp else chooseSpeed s o)
     ∃ t, exec (.parkedSwitchCloses tab) s = .next t ∧ t.transport.state = .threading ∧
       t.transport.intent = some (.record (.engine v false)) ∧
       t.engine.current = some { o with
         phase := .recording, resumeDue := false, startSent := o.startSent || !o.begun
         speed := if sent then o.speed else some v }) ∧
  (∀ (l : Link) (r : Rank) (arg : Arg) (o : Occurrence) (x : Slot) (s : State), s.serving o x → s.clock.set = true →
     let byClock := o.startDue = false ∧ o.extension = none ∧ o.label = .none ∧ x.defn.label = .off
     let time : Time := ⟨(arg.extractLsb' 12 5).toNat, (arg.extractLsb' 6 6).toNat, (arg.extractLsb' 0 6).toNat⟩
     let c : DateTime := ⟨(s.clock.staged.get l).getD s.clock.now.date, time⟩
     let u := { s with clock := { s.clock with now := c, subSecond := 0, staged := s.clock.staged.put l none
                                               candidate := none, correction := none } }
     let held := o.held = true ∧ s.transport.holder = .timer ∧ s.tuner.holder = .timer
     arg.toNat < 131072 → time.hour < 24 → time.minute < 60 → time.second < 60 → s.noneStoppedBy u.now →
     (byClock → s.now < u.now → o.stop ≤ u.now →
       (o.phase = .watch → held → s.transport.state = .stop →
         ∃ t, exec (.setTime l r arg) s = .next t ∧ t.clock.now = c ∧ EndsWith o (missedOutcome o .clockStep) t) ∧
       (o.phase = .waiting → o.held = false → (withoutCurrent o.slot (missedOutcome o .clockStep) u).calm →
         ∃ t, exec (.setTime l r arg) s = .next t ∧ t.clock.now = c ∧ t.engine.current = none ∧
           (t.slots.getD o.slot .factory).outcome = some (missedOutcome o .clockStep) ∧ t.transport = s.transport) ∧
       (o.phase = .recording → held → s.transport.state = .record → o.begun = true → o.resumeDue = false →
         o.noted = none →
         ∃ t, exec (.setTime l r arg) s = .next t ∧ t.clock.now = c ∧
           EndsWith o { partialOutcome u o .power with verdict := .recorded } t)) ∧
     (byClock → s.now < u.now → o.start ≤ u.now → u.now < o.stop → o.phase = .watch → held → s.transport.state = .stop →
       o.begun = false → startCheck s o = none →
       ∃ t, exec (.setTime l r arg) s = .next t ∧ t.engine.current = some (begins o (chooseSpeed u o) c) ∧
         t.transport.state = .record ∧ (t.port .p).pending.getLsbD 11 = true) ∧
     (u.now < s.now → o.phase = .watch ∨ o.phase = .recording ∨ o.phase = .labelPaused → held →
       ∃ t, exec (.setTime l r arg) s = .next t ∧ t.clock.now = c ∧
         t.engine.current = some { o with
           extension := if u.now < o.stop then none else o.extension
           startDue := if u.now < o.start ∧ o.phase = .watch ∧ o.label ≠ .matched then false else o.startDue } ∧
         t.transport = s.transport ∧ t.tuner = s.tuner)) ∧
  (∀ (l : Link) (r : Rank) (arg : Arg) (n : Nat) (on : Bool) (o : Occurrence) (x : Slot) (s : State), s.serving o x →
     o.held = true → s.transport.holder = .timer → s.transport.state = .record → o.phase = .recording → o.begun = true →
     o.resumeDue = false → effectiveRank s l r = .user →
     let stopped : OutcomeRecord := ⟨.stoppedByUser, o.day, o.speed, minutesOf o.recorded⟩
     let orphan := { o with orphan := true }
     let w := (s.port l).eventWork
     let e := asStored w.defn
     let instant := stopInstant e o.day
     let moved := { o with stop := instant, extension := none }
     (s.engine.mode = true → s.engine.lock = false →
       ∃ t, exec (.timerOnOff l r 0) s = .next t ∧ EndsWith o stopped t ∧ t.engine.mode = false ∧
         t.settings.timerOn = false ∧ t.engine.due = []) ∧
     (arg.toNat = o.slot → o.slot < 32 →
       ∃ t, exec (.deleteEvent l r arg) s = .next t ∧ t.engine.current = some (inEnding orphan) ∧
         t.transport.state = .unthreading ∧ (t.port .p).pending.getLsbD 12 = true ∧
         (t.slots.getD o.slot .factory).inUse = false ∧ (t.slots.getD o.slot .factory).outcome = none) ∧
     (w.origin = .fetched → w.slot = some o.slot → w.version = x.version → w.fetchedInUse = true →
       (s.presets.getD (e.preset - 1) .factory).stored = true → e.start ≠ e.stop →
       (e.rep = .once → ∃ d, e.date = .calendar d ∧ d.valid = true ∧ holdsOccurrence e (dayNumber d) = true) →
       (e.rep = .weekly → ∃ d, e.date = .weekday d) →
       (e = { x.defn with stop := n, enabled := on } → n ≠ x.defn.stop →
         (s.now < instant →
           ∃ t, exec (.storeEvent l r arg) s = .next t ∧ t.engine.current = some moved ∧
             (t.slots.getD o.slot .factory).defn = e ∧ t.transport = s.transport) ∧
         (instant ≤ s.now → x.defn.label = .off → o.label = .none → o.noted = none →
           ∃ t, exec (.storeEvent l r arg) s = .next t ∧
             EndsWith moved { partialOutcome s o .power with verdict := .recorded } t)) ∧
       (e = { x.defn with enabled := on } →
         ∃ t, exec (.storeEvent l r arg) s = .next t ∧ t.engine.current = some o ∧
           (t.slots.getD o.slot .factory).defn = e ∧ t.transport = s.transport) ∧
       ({ e with stop := x.defn.stop, enabled := x.defn.enabled } ≠ x.defn →
         exec (.storeEvent l r arg) s = .next { s with ports := portsAfter s (some (l, refusedWith 5)) 0 })))
end

