-- ==== Sys2Proof/Laws/State.lean ====
section
/-!
SUPPORT. What an update of one record leaves in every other, and the reads of links, ports and live links after it.
-/

namespace Sys2Proof.Machine

variable (s : State)

/-! ## modTransport -/

@[simp] theorem State.modTransport_transport (f : Transport → Transport) : (s.modTransport f).transport = f s.transport := rfl
@[simp] theorem State.modTransport_protection (f : Transport → Transport) : (s.modTransport f).protection = s.protection := rfl
@[simp] theorem State.modTransport_outputs (f : Transport → Transport) : (s.modTransport f).outputs = s.outputs := rfl
@[simp] theorem State.modTransport_pins (f : Transport → Transport) : (s.modTransport f).pins = s.pins := rfl
@[simp] theorem State.modTransport_position (f : Transport → Transport) : (s.modTransport f).position = s.position := rfl
@[simp] theorem State.modTransport_reels (f : Transport → Transport) : (s.modTransport f).reels = s.reels := rfl
@[simp] theorem State.modTransport_gauge (f : Transport → Transport) : (s.modTransport f).gauge = s.gauge := rfl
@[simp] theorem State.modTransport_clock (f : Transport → Transport) : (s.modTransport f).clock = s.clock := rfl
@[simp] theorem State.modTransport_tuner (f : Transport → Transport) : (s.modTransport f).tuner = s.tuner := rfl
@[simp] theorem State.modTransport_presets (f : Transport → Transport) : (s.modTransport f).presets = s.presets := rfl
@[simp] theorem State.modTransport_receiver (f : Transport → Transport) : (s.modTransport f).receiver = s.receiver := rfl
@[simp] theorem State.modTransport_slots (f : Transport → Transport) : (s.modTransport f).slots = s.slots := rfl
@[simp] theorem State.modTransport_engine (f : Transport → Transport) : (s.modTransport f).engine = s.engine := rfl
@[simp] theorem State.modTransport_power (f : Transport → Transport) : (s.modTransport f).power = s.power := rfl
@[simp] theorem State.modTransport_settings (f : Transport → Transport) : (s.modTransport f).settings = s.settings := rfl
@[simp] theorem State.modTransport_store (f : Transport → Transport) : (s.modTransport f).store = s.store := rfl
@[simp] theorem State.modTransport_nv (f : Transport → Transport) : (s.modTransport f).nv = s.nv := rfl
@[simp] theorem State.modTransport_ports (f : Transport → Transport) : (s.modTransport f).ports = s.ports := rfl
@[simp] theorem State.modTransport_pending (f : Transport → Transport) : (s.modTransport f).pending = s.pending := rfl
@[simp] theorem State.modTransport_draws (f : Transport → Transport) : (s.modTransport f).draws = s.draws := rfl

/-! ## modProtection -/

@[simp] theorem State.modProtection_transport (f : Protection → Protection) : (s.modProtection f).transport = s.transport := rfl
@[simp] theorem State.modProtection_protection (f : Protection → Protection) : (s.modProtection f).protection = f s.protection := rfl
@[simp] theorem State.modProtection_outputs (f : Protection → Protection) : (s.modProtection f).outputs = s.outputs := rfl
@[simp] theorem State.modProtection_pins (f : Protection → Protection) : (s.modProtection f).pins = s.pins := rfl
@[simp] theorem State.modProtection_position (f : Protection → Protection) : (s.modProtection f).position = s.position := rfl
@[simp] theorem State.modProtection_reels (f : Protection → Protection) : (s.modProtection f).reels = s.reels := rfl
@[simp] theorem State.modProtection_gauge (f : Protection → Protection) : (s.modProtection f).gauge = s.gauge := rfl
@[simp] theorem State.modProtection_clock (f : Protection → Protection) : (s.modProtection f).clock = s.clock := rfl
@[simp] theorem State.modProtection_tuner (f : Protection → Protection) : (s.modProtection f).tuner = s.tuner := rfl
@[simp] theorem State.modProtection_presets (f : Protection → Protection) : (s.modProtection f).presets = s.presets := rfl
@[simp] theorem State.modProtection_receiver (f : Protection → Protection) : (s.modProtection f).receiver = s.receiver := rfl
@[simp] theorem State.modProtection_slots (f : Protection → Protection) : (s.modProtection f).slots = s.slots := rfl
@[simp] theorem State.modProtection_engine (f : Protection → Protection) : (s.modProtection f).engine = s.engine := rfl
@[simp] theorem State.modProtection_power (f : Protection → Protection) : (s.modProtection f).power = s.power := rfl
@[simp] theorem State.modProtection_settings (f : Protection → Protection) : (s.modProtection f).settings = s.settings := rfl
@[simp] theorem State.modProtection_store (f : Protection → Protection) : (s.modProtection f).store = s.store := rfl
@[simp] theorem State.modProtection_nv (f : Protection → Protection) : (s.modProtection f).nv = s.nv := rfl
@[simp] theorem State.modProtection_ports (f : Protection → Protection) : (s.modProtection f).ports = s.ports := rfl
@[simp] theorem State.modProtection_pending (f : Protection → Protection) : (s.modProtection f).pending = s.pending := rfl
@[simp] theorem State.modProtection_draws (f : Protection → Protection) : (s.modProtection f).draws = s.draws := rfl

/-! ## modOutputs -/

@[simp] theorem State.modOutputs_transport (f : Outputs → Outputs) : (s.modOutputs f).transport = s.transport := rfl
@[simp] theorem State.modOutputs_protection (f : Outputs → Outputs) : (s.modOutputs f).protection = s.protection := rfl
@[simp] theorem State.modOutputs_outputs (f : Outputs → Outputs) : (s.modOutputs f).outputs = f s.outputs := rfl
@[simp] theorem State.modOutputs_pins (f : Outputs → Outputs) : (s.modOutputs f).pins = s.pins := rfl
@[simp] theorem State.modOutputs_position (f : Outputs → Outputs) : (s.modOutputs f).position = s.position := rfl
@[simp] theorem State.modOutputs_reels (f : Outputs → Outputs) : (s.modOutputs f).reels = s.reels := rfl
@[simp] theorem State.modOutputs_gauge (f : Outputs → Outputs) : (s.modOutputs f).gauge = s.gauge := rfl
@[simp] theorem State.modOutputs_clock (f : Outputs → Outputs) : (s.modOutputs f).clock = s.clock := rfl
@[simp] theorem State.modOutputs_tuner (f : Outputs → Outputs) : (s.modOutputs f).tuner = s.tuner := rfl
@[simp] theorem State.modOutputs_presets (f : Outputs → Outputs) : (s.modOutputs f).presets = s.presets := rfl
@[simp] theorem State.modOutputs_receiver (f : Outputs → Outputs) : (s.modOutputs f).receiver = s.receiver := rfl
@[simp] theorem State.modOutputs_slots (f : Outputs → Outputs) : (s.modOutputs f).slots = s.slots := rfl
@[simp] theorem State.modOutputs_engine (f : Outputs → Outputs) : (s.modOutputs f).engine = s.engine := rfl
@[simp] theorem State.modOutputs_power (f : Outputs → Outputs) : (s.modOutputs f).power = s.power := rfl
@[simp] theorem State.modOutputs_settings (f : Outputs → Outputs) : (s.modOutputs f).settings = s.settings := rfl
@[simp] theorem State.modOutputs_store (f : Outputs → Outputs) : (s.modOutputs f).store = s.store := rfl
@[simp] theorem State.modOutputs_nv (f : Outputs → Outputs) : (s.modOutputs f).nv = s.nv := rfl
@[simp] theorem State.modOutputs_ports (f : Outputs → Outputs) : (s.modOutputs f).ports = s.ports := rfl
@[simp] theorem State.modOutputs_pending (f : Outputs → Outputs) : (s.modOutputs f).pending = s.pending := rfl
@[simp] theorem State.modOutputs_draws (f : Outputs → Outputs) : (s.modOutputs f).draws = s.draws := rfl

/-! ## modPins -/

@[simp] theorem State.modPins_transport (f : Pins → Pins) : (s.modPins f).transport = s.transport := rfl
@[simp] theorem State.modPins_protection (f : Pins → Pins) : (s.modPins f).protection = s.protection := rfl
@[simp] theorem State.modPins_outputs (f : Pins → Pins) : (s.modPins f).outputs = s.outputs := rfl
@[simp] theorem State.modPins_pins (f : Pins → Pins) : (s.modPins f).pins = f s.pins := rfl
@[simp] theorem State.modPins_position (f : Pins → Pins) : (s.modPins f).position = s.position := rfl
@[simp] theorem State.modPins_reels (f : Pins → Pins) : (s.modPins f).reels = s.reels := rfl
@[simp] theorem State.modPins_gauge (f : Pins → Pins) : (s.modPins f).gauge = s.gauge := rfl
@[simp] theorem State.modPins_clock (f : Pins → Pins) : (s.modPins f).clock = s.clock := rfl
@[simp] theorem State.modPins_tuner (f : Pins → Pins) : (s.modPins f).tuner = s.tuner := rfl
@[simp] theorem State.modPins_presets (f : Pins → Pins) : (s.modPins f).presets = s.presets := rfl
@[simp] theorem State.modPins_receiver (f : Pins → Pins) : (s.modPins f).receiver = s.receiver := rfl
@[simp] theorem State.modPins_slots (f : Pins → Pins) : (s.modPins f).slots = s.slots := rfl
@[simp] theorem State.modPins_engine (f : Pins → Pins) : (s.modPins f).engine = s.engine := rfl
@[simp] theorem State.modPins_power (f : Pins → Pins) : (s.modPins f).power = s.power := rfl
@[simp] theorem State.modPins_settings (f : Pins → Pins) : (s.modPins f).settings = s.settings := rfl
@[simp] theorem State.modPins_store (f : Pins → Pins) : (s.modPins f).store = s.store := rfl
@[simp] theorem State.modPins_nv (f : Pins → Pins) : (s.modPins f).nv = s.nv := rfl
@[simp] theorem State.modPins_ports (f : Pins → Pins) : (s.modPins f).ports = s.ports := rfl
@[simp] theorem State.modPins_pending (f : Pins → Pins) : (s.modPins f).pending = s.pending := rfl
@[simp] theorem State.modPins_draws (f : Pins → Pins) : (s.modPins f).draws = s.draws := rfl

/-! ## modPosition -/

@[simp] theorem State.modPosition_transport (f : Position → Position) : (s.modPosition f).transport = s.transport := rfl
@[simp] theorem State.modPosition_protection (f : Position → Position) : (s.modPosition f).protection = s.protection := rfl
@[simp] theorem State.modPosition_outputs (f : Position → Position) : (s.modPosition f).outputs = s.outputs := rfl
@[simp] theorem State.modPosition_pins (f : Position → Position) : (s.modPosition f).pins = s.pins := rfl
@[simp] theorem State.modPosition_position (f : Position → Position) : (s.modPosition f).position = f s.position := rfl
@[simp] theorem State.modPosition_reels (f : Position → Position) : (s.modPosition f).reels = s.reels := rfl
@[simp] theorem State.modPosition_gauge (f : Position → Position) : (s.modPosition f).gauge = s.gauge := rfl
@[simp] theorem State.modPosition_clock (f : Position → Position) : (s.modPosition f).clock = s.clock := rfl
@[simp] theorem State.modPosition_tuner (f : Position → Position) : (s.modPosition f).tuner = s.tuner := rfl
@[simp] theorem State.modPosition_presets (f : Position → Position) : (s.modPosition f).presets = s.presets := rfl
@[simp] theorem State.modPosition_receiver (f : Position → Position) : (s.modPosition f).receiver = s.receiver := rfl
@[simp] theorem State.modPosition_slots (f : Position → Position) : (s.modPosition f).slots = s.slots := rfl
@[simp] theorem State.modPosition_engine (f : Position → Position) : (s.modPosition f).engine = s.engine := rfl
@[simp] theorem State.modPosition_power (f : Position → Position) : (s.modPosition f).power = s.power := rfl
@[simp] theorem State.modPosition_settings (f : Position → Position) : (s.modPosition f).settings = s.settings := rfl
@[simp] theorem State.modPosition_store (f : Position → Position) : (s.modPosition f).store = s.store := rfl
@[simp] theorem State.modPosition_nv (f : Position → Position) : (s.modPosition f).nv = s.nv := rfl
@[simp] theorem State.modPosition_ports (f : Position → Position) : (s.modPosition f).ports = s.ports := rfl
@[simp] theorem State.modPosition_pending (f : Position → Position) : (s.modPosition f).pending = s.pending := rfl
@[simp] theorem State.modPosition_draws (f : Position → Position) : (s.modPosition f).draws = s.draws := rfl

/-! ## modReels -/

@[simp] theorem State.modReels_transport (f : ReelMonitor → ReelMonitor) : (s.modReels f).transport = s.transport := rfl
@[simp] theorem State.modReels_protection (f : ReelMonitor → ReelMonitor) : (s.modReels f).protection = s.protection := rfl
@[simp] theorem State.modReels_outputs (f : ReelMonitor → ReelMonitor) : (s.modReels f).outputs = s.outputs := rfl
@[simp] theorem State.modReels_pins (f : ReelMonitor → ReelMonitor) : (s.modReels f).pins = s.pins := rfl
@[simp] theorem State.modReels_position (f : ReelMonitor → ReelMonitor) : (s.modReels f).position = s.position := rfl
@[simp] theorem State.modReels_reels (f : ReelMonitor → ReelMonitor) : (s.modReels f).reels = f s.reels := rfl
@[simp] theorem State.modReels_gauge (f : ReelMonitor → ReelMonitor) : (s.modReels f).gauge = s.gauge := rfl
@[simp] theorem State.modReels_clock (f : ReelMonitor → ReelMonitor) : (s.modReels f).clock = s.clock := rfl
@[simp] theorem State.modReels_tuner (f : ReelMonitor → ReelMonitor) : (s.modReels f).tuner = s.tuner := rfl
@[simp] theorem State.modReels_presets (f : ReelMonitor → ReelMonitor) : (s.modReels f).presets = s.presets := rfl
@[simp] theorem State.modReels_receiver (f : ReelMonitor → ReelMonitor) : (s.modReels f).receiver = s.receiver := rfl
@[simp] theorem State.modReels_slots (f : ReelMonitor → ReelMonitor) : (s.modReels f).slots = s.slots := rfl
@[simp] theorem State.modReels_engine (f : ReelMonitor → ReelMonitor) : (s.modReels f).engine = s.engine := rfl
@[simp] theorem State.modReels_power (f : ReelMonitor → ReelMonitor) : (s.modReels f).power = s.power := rfl
@[simp] theorem State.modReels_settings (f : ReelMonitor → ReelMonitor) : (s.modReels f).settings = s.settings := rfl
@[simp] theorem State.modReels_store (f : ReelMonitor → ReelMonitor) : (s.modReels f).store = s.store := rfl
@[simp] theorem State.modReels_nv (f : ReelMonitor → ReelMonitor) : (s.modReels f).nv = s.nv := rfl
@[simp] theorem State.modReels_ports (f : ReelMonitor → ReelMonitor) : (s.modReels f).ports = s.ports := rfl
@[simp] theorem State.modReels_pending (f : ReelMonitor → ReelMonitor) : (s.modReels f).pending = s.pending := rfl
@[simp] theorem State.modReels_draws (f : ReelMonitor → ReelMonitor) : (s.modReels f).draws = s.draws := rfl

/-! ## modGauge -/

@[simp] theorem State.modGauge_transport (f : Gauge → Gauge) : (s.modGauge f).transport = s.transport := rfl
@[simp] theorem State.modGauge_protection (f : Gauge → Gauge) : (s.modGauge f).protection = s.protection := rfl
@[simp] theorem State.modGauge_outputs (f : Gauge → Gauge) : (s.modGauge f).outputs = s.outputs := rfl
@[simp] theorem State.modGauge_pins (f : Gauge → Gauge) : (s.modGauge f).pins = s.pins := rfl
@[simp] theorem State.modGauge_position (f : Gauge → Gauge) : (s.modGauge f).position = s.position := rfl
@[simp] theorem State.modGauge_reels (f : Gauge → Gauge) : (s.modGauge f).reels = s.reels := rfl
@[simp] theorem State.modGauge_gauge (f : Gauge → Gauge) : (s.modGauge f).gauge = f s.gauge := rfl
@[simp] theorem State.modGauge_clock (f : Gauge → Gauge) : (s.modGauge f).clock = s.clock := rfl
@[simp] theorem State.modGauge_tuner (f : Gauge → Gauge) : (s.modGauge f).tuner = s.tuner := rfl
@[simp] theorem State.modGauge_presets (f : Gauge → Gauge) : (s.modGauge f).presets = s.presets := rfl
@[simp] theorem State.modGauge_receiver (f : Gauge → Gauge) : (s.modGauge f).receiver = s.receiver := rfl
@[simp] theorem State.modGauge_slots (f : Gauge → Gauge) : (s.modGauge f).slots = s.slots := rfl
@[simp] theorem State.modGauge_engine (f : Gauge → Gauge) : (s.modGauge f).engine = s.engine := rfl
@[simp] theorem State.modGauge_power (f : Gauge → Gauge) : (s.modGauge f).power = s.power := rfl
@[simp] theorem State.modGauge_settings (f : Gauge → Gauge) : (s.modGauge f).settings = s.settings := rfl
@[simp] theorem State.modGauge_store (f : Gauge → Gauge) : (s.modGauge f).store = s.store := rfl
@[simp] theorem State.modGauge_nv (f : Gauge → Gauge) : (s.modGauge f).nv = s.nv := rfl
@[simp] theorem State.modGauge_ports (f : Gauge → Gauge) : (s.modGauge f).ports = s.ports := rfl
@[simp] theorem State.modGauge_pending (f : Gauge → Gauge) : (s.modGauge f).pending = s.pending := rfl
@[simp] theorem State.modGauge_draws (f : Gauge → Gauge) : (s.modGauge f).draws = s.draws := rfl

/-! ## modClock -/

@[simp] theorem State.modClock_transport (f : Clock → Clock) : (s.modClock f).transport = s.transport := rfl
@[simp] theorem State.modClock_protection (f : Clock → Clock) : (s.modClock f).protection = s.protection := rfl
@[simp] theorem State.modClock_outputs (f : Clock → Clock) : (s.modClock f).outputs = s.outputs := rfl
@[simp] theorem State.modClock_pins (f : Clock → Clock) : (s.modClock f).pins = s.pins := rfl
@[simp] theorem State.modClock_position (f : Clock → Clock) : (s.modClock f).position = s.position := rfl
@[simp] theorem State.modClock_reels (f : Clock → Clock) : (s.modClock f).reels = s.reels := rfl
@[simp] theorem State.modClock_gauge (f : Clock → Clock) : (s.modClock f).gauge = s.gauge := rfl
@[simp] theorem State.modClock_clock (f : Clock → Clock) : (s.modClock f).clock = f s.clock := rfl
@[simp] theorem State.modClock_tuner (f : Clock → Clock) : (s.modClock f).tuner = s.tuner := rfl
@[simp] theorem State.modClock_presets (f : Clock → Clock) : (s.modClock f).presets = s.presets := rfl
@[simp] theorem State.modClock_receiver (f : Clock → Clock) : (s.modClock f).receiver = s.receiver := rfl
@[simp] theorem State.modClock_slots (f : Clock → Clock) : (s.modClock f).slots = s.slots := rfl
@[simp] theorem State.modClock_engine (f : Clock → Clock) : (s.modClock f).engine = s.engine := rfl
@[simp] theorem State.modClock_power (f : Clock → Clock) : (s.modClock f).power = s.power := rfl
@[simp] theorem State.modClock_settings (f : Clock → Clock) : (s.modClock f).settings = s.settings := rfl
@[simp] theorem State.modClock_store (f : Clock → Clock) : (s.modClock f).store = s.store := rfl
@[simp] theorem State.modClock_nv (f : Clock → Clock) : (s.modClock f).nv = s.nv := rfl
@[simp] theorem State.modClock_ports (f : Clock → Clock) : (s.modClock f).ports = s.ports := rfl
@[simp] theorem State.modClock_pending (f : Clock → Clock) : (s.modClock f).pending = s.pending := rfl
@[simp] theorem State.modClock_draws (f : Clock → Clock) : (s.modClock f).draws = s.draws := rfl

/-! ## modTuner -/

@[simp] theorem State.modTuner_transport (f : Tuner → Tuner) : (s.modTuner f).transport = s.transport := rfl
@[simp] theorem State.modTuner_protection (f : Tuner → Tuner) : (s.modTuner f).protection = s.protection := rfl
@[simp] theorem State.modTuner_outputs (f : Tuner → Tuner) : (s.modTuner f).outputs = s.outputs := rfl
@[simp] theorem State.modTuner_pins (f : Tuner → Tuner) : (s.modTuner f).pins = s.pins := rfl
@[simp] theorem State.modTuner_position (f : Tuner → Tuner) : (s.modTuner f).position = s.position := rfl
@[simp] theorem State.modTuner_reels (f : Tuner → Tuner) : (s.modTuner f).reels = s.reels := rfl
@[simp] theorem State.modTuner_gauge (f : Tuner → Tuner) : (s.modTuner f).gauge = s.gauge := rfl
@[simp] theorem State.modTuner_clock (f : Tuner → Tuner) : (s.modTuner f).clock = s.clock := rfl
@[simp] theorem State.modTuner_tuner (f : Tuner → Tuner) : (s.modTuner f).tuner = f s.tuner := rfl
@[simp] theorem State.modTuner_presets (f : Tuner → Tuner) : (s.modTuner f).presets = s.presets := rfl
@[simp] theorem State.modTuner_receiver (f : Tuner → Tuner) : (s.modTuner f).receiver = s.receiver := rfl
@[simp] theorem State.modTuner_slots (f : Tuner → Tuner) : (s.modTuner f).slots = s.slots := rfl
@[simp] theorem State.modTuner_engine (f : Tuner → Tuner) : (s.modTuner f).engine = s.engine := rfl
@[simp] theorem State.modTuner_power (f : Tuner → Tuner) : (s.modTuner f).power = s.power := rfl
@[simp] theorem State.modTuner_settings (f : Tuner → Tuner) : (s.modTuner f).settings = s.settings := rfl
@[simp] theorem State.modTuner_store (f : Tuner → Tuner) : (s.modTuner f).store = s.store := rfl
@[simp] theorem State.modTuner_nv (f : Tuner → Tuner) : (s.modTuner f).nv = s.nv := rfl
@[simp] theorem State.modTuner_ports (f : Tuner → Tuner) : (s.modTuner f).ports = s.ports := rfl
@[simp] theorem State.modTuner_pending (f : Tuner → Tuner) : (s.modTuner f).pending = s.pending := rfl
@[simp] theorem State.modTuner_draws (f : Tuner → Tuner) : (s.modTuner f).draws = s.draws := rfl

/-! ## modPresets -/

@[simp] theorem State.modPresets_transport (f : List Preset → List Preset) : (s.modPresets f).transport = s.transport := rfl
@[simp] theorem State.modPresets_protection (f : List Preset → List Preset) : (s.modPresets f).protection = s.protection := rfl
@[simp] theorem State.modPresets_outputs (f : List Preset → List Preset) : (s.modPresets f).outputs = s.outputs := rfl
@[simp] theorem State.modPresets_pins (f : List Preset → List Preset) : (s.modPresets f).pins = s.pins := rfl
@[simp] theorem State.modPresets_position (f : List Preset → List Preset) : (s.modPresets f).position = s.position := rfl
@[simp] theorem State.modPresets_reels (f : List Preset → List Preset) : (s.modPresets f).reels = s.reels := rfl
@[simp] theorem State.modPresets_gauge (f : List Preset → List Preset) : (s.modPresets f).gauge = s.gauge := rfl
@[simp] theorem State.modPresets_clock (f : List Preset → List Preset) : (s.modPresets f).clock = s.clock := rfl
@[simp] theorem State.modPresets_tuner (f : List Preset → List Preset) : (s.modPresets f).tuner = s.tuner := rfl
@[simp] theorem State.modPresets_presets (f : List Preset → List Preset) : (s.modPresets f).presets = f s.presets := rfl
@[simp] theorem State.modPresets_receiver (f : List Preset → List Preset) : (s.modPresets f).receiver = s.receiver := rfl
@[simp] theorem State.modPresets_slots (f : List Preset → List Preset) : (s.modPresets f).slots = s.slots := rfl
@[simp] theorem State.modPresets_engine (f : List Preset → List Preset) : (s.modPresets f).engine = s.engine := rfl
@[simp] theorem State.modPresets_power (f : List Preset → List Preset) : (s.modPresets f).power = s.power := rfl
@[simp] theorem State.modPresets_settings (f : List Preset → List Preset) : (s.modPresets f).settings = s.settings := rfl
@[simp] theorem State.modPresets_store (f : List Preset → List Preset) : (s.modPresets f).store = s.store := rfl
@[simp] theorem State.modPresets_nv (f : List Preset → List Preset) : (s.modPresets f).nv = s.nv := rfl
@[simp] theorem State.modPresets_ports (f : List Preset → List Preset) : (s.modPresets f).ports = s.ports := rfl
@[simp] theorem State.modPresets_pending (f : List Preset → List Preset) : (s.modPresets f).pending = s.pending := rfl
@[simp] theorem State.modPresets_draws (f : List Preset → List Preset) : (s.modPresets f).draws = s.draws := rfl

/-! ## modReceiver -/

@[simp] theorem State.modReceiver_transport (f : Receiver → Receiver) : (s.modReceiver f).transport = s.transport := rfl
@[simp] theorem State.modReceiver_protection (f : Receiver → Receiver) : (s.modReceiver f).protection = s.protection := rfl
@[simp] theorem State.modReceiver_outputs (f : Receiver → Receiver) : (s.modReceiver f).outputs = s.outputs := rfl
@[simp] theorem State.modReceiver_pins (f : Receiver → Receiver) : (s.modReceiver f).pins = s.pins := rfl
@[simp] theorem State.modReceiver_position (f : Receiver → Receiver) : (s.modReceiver f).position = s.position := rfl
@[simp] theorem State.modReceiver_reels (f : Receiver → Receiver) : (s.modReceiver f).reels = s.reels := rfl
@[simp] theorem State.modReceiver_gauge (f : Receiver → Receiver) : (s.modReceiver f).gauge = s.gauge := rfl
@[simp] theorem State.modReceiver_clock (f : Receiver → Receiver) : (s.modReceiver f).clock = s.clock := rfl
@[simp] theorem State.modReceiver_tuner (f : Receiver → Receiver) : (s.modReceiver f).tuner = s.tuner := rfl
@[simp] theorem State.modReceiver_presets (f : Receiver → Receiver) : (s.modReceiver f).presets = s.presets := rfl
@[simp] theorem State.modReceiver_receiver (f : Receiver → Receiver) : (s.modReceiver f).receiver = f s.receiver := rfl
@[simp] theorem State.modReceiver_slots (f : Receiver → Receiver) : (s.modReceiver f).slots = s.slots := rfl
@[simp] theorem State.modReceiver_engine (f : Receiver → Receiver) : (s.modReceiver f).engine = s.engine := rfl
@[simp] theorem State.modReceiver_power (f : Receiver → Receiver) : (s.modReceiver f).power = s.power := rfl
@[simp] theorem State.modReceiver_settings (f : Receiver → Receiver) : (s.modReceiver f).settings = s.settings := rfl
@[simp] theorem State.modReceiver_store (f : Receiver → Receiver) : (s.modReceiver f).store = s.store := rfl
@[simp] theorem State.modReceiver_nv (f : Receiver → Receiver) : (s.modReceiver f).nv = s.nv := rfl
@[simp] theorem State.modReceiver_ports (f : Receiver → Receiver) : (s.modReceiver f).ports = s.ports := rfl
@[simp] theorem State.modReceiver_pending (f : Receiver → Receiver) : (s.modReceiver f).pending = s.pending := rfl
@[simp] theorem State.modReceiver_draws (f : Receiver → Receiver) : (s.modReceiver f).draws = s.draws := rfl

/-! ## modSlots -/

@[simp] theorem State.modSlots_transport (f : List Slot → List Slot) : (s.modSlots f).transport = s.transport := rfl
@[simp] theorem State.modSlots_protection (f : List Slot → List Slot) : (s.modSlots f).protection = s.protection := rfl
@[simp] theorem State.modSlots_outputs (f : List Slot → List Slot) : (s.modSlots f).outputs = s.outputs := rfl
@[simp] theorem State.modSlots_pins (f : List Slot → List Slot) : (s.modSlots f).pins = s.pins := rfl
@[simp] theorem State.modSlots_position (f : List Slot → List Slot) : (s.modSlots f).position = s.position := rfl
@[simp] theorem State.modSlots_reels (f : List Slot → List Slot) : (s.modSlots f).reels = s.reels := rfl
@[simp] theorem State.modSlots_gauge (f : List Slot → List Slot) : (s.modSlots f).gauge = s.gauge := rfl
@[simp] theorem State.modSlots_clock (f : List Slot → List Slot) : (s.modSlots f).clock = s.clock := rfl
@[simp] theorem State.modSlots_tuner (f : List Slot → List Slot) : (s.modSlots f).tuner = s.tuner := rfl
@[simp] theorem State.modSlots_presets (f : List Slot → List Slot) : (s.modSlots f).presets = s.presets := rfl
@[simp] theorem State.modSlots_receiver (f : List Slot → List Slot) : (s.modSlots f).receiver = s.receiver := rfl
@[simp] theorem State.modSlots_slots (f : List Slot → List Slot) : (s.modSlots f).slots = f s.slots := rfl
@[simp] theorem State.modSlots_engine (f : List Slot → List Slot) : (s.modSlots f).engine = s.engine := rfl
@[simp] theorem State.modSlots_power (f : List Slot → List Slot) : (s.modSlots f).power = s.power := rfl
@[simp] theorem State.modSlots_settings (f : List Slot → List Slot) : (s.modSlots f).settings = s.settings := rfl
@[simp] theorem State.modSlots_store (f : List Slot → List Slot) : (s.modSlots f).store = s.store := rfl
@[simp] theorem State.modSlots_nv (f : List Slot → List Slot) : (s.modSlots f).nv = s.nv := rfl
@[simp] theorem State.modSlots_ports (f : List Slot → List Slot) : (s.modSlots f).ports = s.ports := rfl
@[simp] theorem State.modSlots_pending (f : List Slot → List Slot) : (s.modSlots f).pending = s.pending := rfl
@[simp] theorem State.modSlots_draws (f : List Slot → List Slot) : (s.modSlots f).draws = s.draws := rfl

/-! ## modEngine -/

@[simp] theorem State.modEngine_transport (f : Engine → Engine) : (s.modEngine f).transport = s.transport := rfl
@[simp] theorem State.modEngine_protection (f : Engine → Engine) : (s.modEngine f).protection = s.protection := rfl
@[simp] theorem State.modEngine_outputs (f : Engine → Engine) : (s.modEngine f).outputs = s.outputs := rfl
@[simp] theorem State.modEngine_pins (f : Engine → Engine) : (s.modEngine f).pins = s.pins := rfl
@[simp] theorem State.modEngine_position (f : Engine → Engine) : (s.modEngine f).position = s.position := rfl
@[simp] theorem State.modEngine_reels (f : Engine → Engine) : (s.modEngine f).reels = s.reels := rfl
@[simp] theorem State.modEngine_gauge (f : Engine → Engine) : (s.modEngine f).gauge = s.gauge := rfl
@[simp] theorem State.modEngine_clock (f : Engine → Engine) : (s.modEngine f).clock = s.clock := rfl
@[simp] theorem State.modEngine_tuner (f : Engine → Engine) : (s.modEngine f).tuner = s.tuner := rfl
@[simp] theorem State.modEngine_presets (f : Engine → Engine) : (s.modEngine f).presets = s.presets := rfl
@[simp] theorem State.modEngine_receiver (f : Engine → Engine) : (s.modEngine f).receiver = s.receiver := rfl
@[simp] theorem State.modEngine_slots (f : Engine → Engine) : (s.modEngine f).slots = s.slots := rfl
@[simp] theorem State.modEngine_engine (f : Engine → Engine) : (s.modEngine f).engine = f s.engine := rfl
@[simp] theorem State.modEngine_power (f : Engine → Engine) : (s.modEngine f).power = s.power := rfl
@[simp] theorem State.modEngine_settings (f : Engine → Engine) : (s.modEngine f).settings = s.settings := rfl
@[simp] theorem State.modEngine_store (f : Engine → Engine) : (s.modEngine f).store = s.store := rfl
@[simp] theorem State.modEngine_nv (f : Engine → Engine) : (s.modEngine f).nv = s.nv := rfl
@[simp] theorem State.modEngine_ports (f : Engine → Engine) : (s.modEngine f).ports = s.ports := rfl
@[simp] theorem State.modEngine_pending (f : Engine → Engine) : (s.modEngine f).pending = s.pending := rfl
@[simp] theorem State.modEngine_draws (f : Engine → Engine) : (s.modEngine f).draws = s.draws := rfl

/-! ## modPower -/

@[simp] theorem State.modPower_transport (f : Power → Power) : (s.modPower f).transport = s.transport := rfl
@[simp] theorem State.modPower_protection (f : Power → Power) : (s.modPower f).protection = s.protection := rfl
@[simp] theorem State.modPower_outputs (f : Power → Power) : (s.modPower f).outputs = s.outputs := rfl
@[simp] theorem State.modPower_pins (f : Power → Power) : (s.modPower f).pins = s.pins := rfl
@[simp] theorem State.modPower_position (f : Power → Power) : (s.modPower f).position = s.position := rfl
@[simp] theorem State.modPower_reels (f : Power → Power) : (s.modPower f).reels = s.reels := rfl
@[simp] theorem State.modPower_gauge (f : Power → Power) : (s.modPower f).gauge = s.gauge := rfl
@[simp] theorem State.modPower_clock (f : Power → Power) : (s.modPower f).clock = s.clock := rfl
@[simp] theorem State.modPower_tuner (f : Power → Power) : (s.modPower f).tuner = s.tuner := rfl
@[simp] theorem State.modPower_presets (f : Power → Power) : (s.modPower f).presets = s.presets := rfl
@[simp] theorem State.modPower_receiver (f : Power → Power) : (s.modPower f).receiver = s.receiver := rfl
@[simp] theorem State.modPower_slots (f : Power → Power) : (s.modPower f).slots = s.slots := rfl
@[simp] theorem State.modPower_engine (f : Power → Power) : (s.modPower f).engine = s.engine := rfl
@[simp] theorem State.modPower_power (f : Power → Power) : (s.modPower f).power = f s.power := rfl
@[simp] theorem State.modPower_settings (f : Power → Power) : (s.modPower f).settings = s.settings := rfl
@[simp] theorem State.modPower_store (f : Power → Power) : (s.modPower f).store = s.store := rfl
@[simp] theorem State.modPower_nv (f : Power → Power) : (s.modPower f).nv = s.nv := rfl
@[simp] theorem State.modPower_ports (f : Power → Power) : (s.modPower f).ports = s.ports := rfl
@[simp] theorem State.modPower_pending (f : Power → Power) : (s.modPower f).pending = s.pending := rfl
@[simp] theorem State.modPower_draws (f : Power → Power) : (s.modPower f).draws = s.draws := rfl

/-! ## modSettings -/

@[simp] theorem State.modSettings_transport (f : Settings → Settings) : (s.modSettings f).transport = s.transport := rfl
@[simp] theorem State.modSettings_protection (f : Settings → Settings) : (s.modSettings f).protection = s.protection := rfl
@[simp] theorem State.modSettings_outputs (f : Settings → Settings) : (s.modSettings f).outputs = s.outputs := rfl
@[simp] theorem State.modSettings_pins (f : Settings → Settings) : (s.modSettings f).pins = s.pins := rfl
@[simp] theorem State.modSettings_position (f : Settings → Settings) : (s.modSettings f).position = s.position := rfl
@[simp] theorem State.modSettings_reels (f : Settings → Settings) : (s.modSettings f).reels = s.reels := rfl
@[simp] theorem State.modSettings_gauge (f : Settings → Settings) : (s.modSettings f).gauge = s.gauge := rfl
@[simp] theorem State.modSettings_clock (f : Settings → Settings) : (s.modSettings f).clock = s.clock := rfl
@[simp] theorem State.modSettings_tuner (f : Settings → Settings) : (s.modSettings f).tuner = s.tuner := rfl
@[simp] theorem State.modSettings_presets (f : Settings → Settings) : (s.modSettings f).presets = s.presets := rfl
@[simp] theorem State.modSettings_receiver (f : Settings → Settings) : (s.modSettings f).receiver = s.receiver := rfl
@[simp] theorem State.modSettings_slots (f : Settings → Settings) : (s.modSettings f).slots = s.slots := rfl
@[simp] theorem State.modSettings_engine (f : Settings → Settings) : (s.modSettings f).engine = s.engine := rfl
@[simp] theorem State.modSettings_power (f : Settings → Settings) : (s.modSettings f).power = s.power := rfl
@[simp] theorem State.modSettings_settings (f : Settings → Settings) : (s.modSettings f).settings = f s.settings := rfl
@[simp] theorem State.modSettings_store (f : Settings → Settings) : (s.modSettings f).store = s.store := rfl
@[simp] theorem State.modSettings_nv (f : Settings → Settings) : (s.modSettings f).nv = s.nv := rfl
@[simp] theorem State.modSettings_ports (f : Settings → Settings) : (s.modSettings f).ports = s.ports := rfl
@[simp] theorem State.modSettings_pending (f : Settings → Settings) : (s.modSettings f).pending = s.pending := rfl
@[simp] theorem State.modSettings_draws (f : Settings → Settings) : (s.modSettings f).draws = s.draws := rfl

/-! ## modStore -/

@[simp] theorem State.modStore_transport (f : Store → Store) : (s.modStore f).transport = s.transport := rfl
@[simp] theorem State.modStore_protection (f : Store → Store) : (s.modStore f).protection = s.protection := rfl
@[simp] theorem State.modStore_outputs (f : Store → Store) : (s.modStore f).outputs = s.outputs := rfl
@[simp] theorem State.modStore_pins (f : Store → Store) : (s.modStore f).pins = s.pins := rfl
@[simp] theorem State.modStore_position (f : Store → Store) : (s.modStore f).position = s.position := rfl
@[simp] theorem State.modStore_reels (f : Store → Store) : (s.modStore f).reels = s.reels := rfl
@[simp] theorem State.modStore_gauge (f : Store → Store) : (s.modStore f).gauge = s.gauge := rfl
@[simp] theorem State.modStore_clock (f : Store → Store) : (s.modStore f).clock = s.clock := rfl
@[simp] theorem State.modStore_tuner (f : Store → Store) : (s.modStore f).tuner = s.tuner := rfl
@[simp] theorem State.modStore_presets (f : Store → Store) : (s.modStore f).presets = s.presets := rfl
@[simp] theorem State.modStore_receiver (f : Store → Store) : (s.modStore f).receiver = s.receiver := rfl
@[simp] theorem State.modStore_slots (f : Store → Store) : (s.modStore f).slots = s.slots := rfl
@[simp] theorem State.modStore_engine (f : Store → Store) : (s.modStore f).engine = s.engine := rfl
@[simp] theorem State.modStore_power (f : Store → Store) : (s.modStore f).power = s.power := rfl
@[simp] theorem State.modStore_settings (f : Store → Store) : (s.modStore f).settings = s.settings := rfl
@[simp] theorem State.modStore_store (f : Store → Store) : (s.modStore f).store = f s.store := rfl
@[simp] theorem State.modStore_nv (f : Store → Store) : (s.modStore f).nv = s.nv := rfl
@[simp] theorem State.modStore_ports (f : Store → Store) : (s.modStore f).ports = s.ports := rfl
@[simp] theorem State.modStore_pending (f : Store → Store) : (s.modStore f).pending = s.pending := rfl
@[simp] theorem State.modStore_draws (f : Store → Store) : (s.modStore f).draws = s.draws := rfl

/-! ## modNv -/

@[simp] theorem State.modNv_transport (f : Nonvolatile → Nonvolatile) : (s.modNv f).transport = s.transport := rfl
@[simp] theorem State.modNv_protection (f : Nonvolatile → Nonvolatile) : (s.modNv f).protection = s.protection := rfl
@[simp] theorem State.modNv_outputs (f : Nonvolatile → Nonvolatile) : (s.modNv f).outputs = s.outputs := rfl
@[simp] theorem State.modNv_pins (f : Nonvolatile → Nonvolatile) : (s.modNv f).pins = s.pins := rfl
@[simp] theorem State.modNv_position (f : Nonvolatile → Nonvolatile) : (s.modNv f).position = s.position := rfl
@[simp] theorem State.modNv_reels (f : Nonvolatile → Nonvolatile) : (s.modNv f).reels = s.reels := rfl
@[simp] theorem State.modNv_gauge (f : Nonvolatile → Nonvolatile) : (s.modNv f).gauge = s.gauge := rfl
@[simp] theorem State.modNv_clock (f : Nonvolatile → Nonvolatile) : (s.modNv f).clock = s.clock := rfl
@[simp] theorem State.modNv_tuner (f : Nonvolatile → Nonvolatile) : (s.modNv f).tuner = s.tuner := rfl
@[simp] theorem State.modNv_presets (f : Nonvolatile → Nonvolatile) : (s.modNv f).presets = s.presets := rfl
@[simp] theorem State.modNv_receiver (f : Nonvolatile → Nonvolatile) : (s.modNv f).receiver = s.receiver := rfl
@[simp] theorem State.modNv_slots (f : Nonvolatile → Nonvolatile) : (s.modNv f).slots = s.slots := rfl
@[simp] theorem State.modNv_engine (f : Nonvolatile → Nonvolatile) : (s.modNv f).engine = s.engine := rfl
@[simp] theorem State.modNv_power (f : Nonvolatile → Nonvolatile) : (s.modNv f).power = s.power := rfl
@[simp] theorem State.modNv_settings (f : Nonvolatile → Nonvolatile) : (s.modNv f).settings = s.settings := rfl
@[simp] theorem State.modNv_store (f : Nonvolatile → Nonvolatile) : (s.modNv f).store = s.store := rfl
@[simp] theorem State.modNv_nv (f : Nonvolatile → Nonvolatile) : (s.modNv f).nv = f s.nv := rfl
@[simp] theorem State.modNv_ports (f : Nonvolatile → Nonvolatile) : (s.modNv f).ports = s.ports := rfl
@[simp] theorem State.modNv_pending (f : Nonvolatile → Nonvolatile) : (s.modNv f).pending = s.pending := rfl
@[simp] theorem State.modNv_draws (f : Nonvolatile → Nonvolatile) : (s.modNv f).draws = s.draws := rfl

/-! ## modPorts -/

@[simp] theorem State.modPorts_transport (f : PerLink Port → PerLink Port) : (s.modPorts f).transport = s.transport := rfl
@[simp] theorem State.modPorts_protection (f : PerLink Port → PerLink Port) : (s.modPorts f).protection = s.protection := rfl
@[simp] theorem State.modPorts_outputs (f : PerLink Port → PerLink Port) : (s.modPorts f).outputs = s.outputs := rfl
@[simp] theorem State.modPorts_pins (f : PerLink Port → PerLink Port) : (s.modPorts f).pins = s.pins := rfl
@[simp] theorem State.modPorts_position (f : PerLink Port → PerLink Port) : (s.modPorts f).position = s.position := rfl
@[simp] theorem State.modPorts_reels (f : PerLink Port → PerLink Port) : (s.modPorts f).reels = s.reels := rfl
@[simp] theorem State.modPorts_gauge (f : PerLink Port → PerLink Port) : (s.modPorts f).gauge = s.gauge := rfl
@[simp] theorem State.modPorts_clock (f : PerLink Port → PerLink Port) : (s.modPorts f).clock = s.clock := rfl
@[simp] theorem State.modPorts_tuner (f : PerLink Port → PerLink Port) : (s.modPorts f).tuner = s.tuner := rfl
@[simp] theorem State.modPorts_presets (f : PerLink Port → PerLink Port) : (s.modPorts f).presets = s.presets := rfl
@[simp] theorem State.modPorts_receiver (f : PerLink Port → PerLink Port) : (s.modPorts f).receiver = s.receiver := rfl
@[simp] theorem State.modPorts_slots (f : PerLink Port → PerLink Port) : (s.modPorts f).slots = s.slots := rfl
@[simp] theorem State.modPorts_engine (f : PerLink Port → PerLink Port) : (s.modPorts f).engine = s.engine := rfl
@[simp] theorem State.modPorts_power (f : PerLink Port → PerLink Port) : (s.modPorts f).power = s.power := rfl
@[simp] theorem State.modPorts_settings (f : PerLink Port → PerLink Port) : (s.modPorts f).settings = s.settings := rfl
@[simp] theorem State.modPorts_store (f : PerLink Port → PerLink Port) : (s.modPorts f).store = s.store := rfl
@[simp] theorem State.modPorts_nv (f : PerLink Port → PerLink Port) : (s.modPorts f).nv = s.nv := rfl
@[simp] theorem State.modPorts_ports (f : PerLink Port → PerLink Port) : (s.modPorts f).ports = f s.ports := rfl
@[simp] theorem State.modPorts_pending (f : PerLink Port → PerLink Port) : (s.modPorts f).pending = s.pending := rfl
@[simp] theorem State.modPorts_draws (f : PerLink Port → PerLink Port) : (s.modPorts f).draws = s.draws := rfl

/-! ## Links and ports -/

@[simp] theorem PerLink.get_put_same {α : Type} (x : PerLink α) (l : Link) (v : α) : (x.put l v).get l = v := by
  cases l <;> rfl

theorem PerLink.get_put {α : Type} (x : PerLink α) (l m : Link) (v : α) :
    (x.put l v).get m = if m = l then v else x.get m := by cases l <;> cases m <;> rfl

theorem PerLink.ext_get {α : Type} {x y : PerLink α} (h : ∀ l, x.get l = y.get l) : x = y := by
  cases x; cases y; have hp := h .p; have hg := h .g; simp_all [PerLink.get]

@[simp] theorem State.port_modPort_same (l : Link) (f : Port → Port) : (s.modPort l f).port l = f (s.port l) := by
  simp [State.port, State.modPort]

theorem State.port_modPort (l m : Link) (f : Port → Port) :
    (s.modPort l f).port m = if m = l then f (s.port m) else s.port m := by
  cases l <;> cases m <;> rfl

@[simp] theorem State.modPort_transport (l : Link) (f : Port → Port) : (s.modPort l f).transport = s.transport := rfl
@[simp] theorem State.modPort_protection (l : Link) (f : Port → Port) : (s.modPort l f).protection = s.protection := rfl
@[simp] theorem State.modPort_outputs (l : Link) (f : Port → Port) : (s.modPort l f).outputs = s.outputs := rfl
@[simp] theorem State.modPort_pins (l : Link) (f : Port → Port) : (s.modPort l f).pins = s.pins := rfl
@[simp] theorem State.modPort_position (l : Link) (f : Port → Port) : (s.modPort l f).position = s.position := rfl
@[simp] theorem State.modPort_reels (l : Link) (f : Port → Port) : (s.modPort l f).reels = s.reels := rfl
@[simp] theorem State.modPort_gauge (l : Link) (f : Port → Port) : (s.modPort l f).gauge = s.gauge := rfl
@[simp] theorem State.modPort_clock (l : Link) (f : Port → Port) : (s.modPort l f).clock = s.clock := rfl
@[simp] theorem State.modPort_tuner (l : Link) (f : Port → Port) : (s.modPort l f).tuner = s.tuner := rfl
@[simp] theorem State.modPort_presets (l : Link) (f : Port → Port) : (s.modPort l f).presets = s.presets := rfl
@[simp] theorem State.modPort_receiver (l : Link) (f : Port → Port) : (s.modPort l f).receiver = s.receiver := rfl
@[simp] theorem State.modPort_slots (l : Link) (f : Port → Port) : (s.modPort l f).slots = s.slots := rfl
@[simp] theorem State.modPort_engine (l : Link) (f : Port → Port) : (s.modPort l f).engine = s.engine := rfl
@[simp] theorem State.modPort_power (l : Link) (f : Port → Port) : (s.modPort l f).power = s.power := rfl
@[simp] theorem State.modPort_settings (l : Link) (f : Port → Port) : (s.modPort l f).settings = s.settings := rfl
@[simp] theorem State.modPort_store (l : Link) (f : Port → Port) : (s.modPort l f).store = s.store := rfl
@[simp] theorem State.modPort_nv (l : Link) (f : Port → Port) : (s.modPort l f).nv = s.nv := rfl
@[simp] theorem State.modPort_pending (l : Link) (f : Port → Port) : (s.modPort l f).pending = s.pending := rfl
@[simp] theorem State.modPort_draws (l : Link) (f : Port → Port) : (s.modPort l f).draws = s.draws := rfl

/-! ## Reads that depend on one record -/

@[simp] theorem State.modTransport_live (f : Transport → Transport) (l : Link) : (s.modTransport f).live l = s.live l := rfl
@[simp] theorem State.modTransport_isOn (f : Transport → Transport) : (s.modTransport f).isOn = s.isOn := rfl
@[simp] theorem State.modTransport_inHold (f : Transport → Transport) : (s.modTransport f).inHold = s.inHold := rfl
@[simp] theorem State.modTransport_port (f : Transport → Transport) (l : Link) : (s.modTransport f).port l = s.port l := rfl
@[simp] theorem State.modProtection_live (f : Protection → Protection) (l : Link) : (s.modProtection f).live l = s.live l := rfl
@[simp] theorem State.modProtection_isOn (f : Protection → Protection) : (s.modProtection f).isOn = s.isOn := rfl
@[simp] theorem State.modProtection_inHold (f : Protection → Protection) : (s.modProtection f).inHold = s.inHold := rfl
@[simp] theorem State.modProtection_port (f : Protection → Protection) (l : Link) : (s.modProtection f).port l = s.port l := rfl
@[simp] theorem State.modOutputs_live (f : Outputs → Outputs) (l : Link) : (s.modOutputs f).live l = s.live l := rfl
@[simp] theorem State.modOutputs_isOn (f : Outputs → Outputs) : (s.modOutputs f).isOn = s.isOn := rfl
@[simp] theorem State.modOutputs_inHold (f : Outputs → Outputs) : (s.modOutputs f).inHold = s.inHold := rfl
@[simp] theorem State.modOutputs_port (f : Outputs → Outputs) (l : Link) : (s.modOutputs f).port l = s.port l := rfl
@[simp] theorem State.modPins_live (f : Pins → Pins) (l : Link) : (s.modPins f).live l = s.live l := rfl
@[simp] theorem State.modPins_isOn (f : Pins → Pins) : (s.modPins f).isOn = s.isOn := rfl
@[simp] theorem State.modPins_inHold (f : Pins → Pins) : (s.modPins f).inHold = s.inHold := rfl
@[simp] theorem State.modPins_port (f : Pins → Pins) (l : Link) : (s.modPins f).port l = s.port l := rfl
@[simp] theorem State.modPosition_live (f : Position → Position) (l : Link) : (s.modPosition f).live l = s.live l := rfl
@[simp] theorem State.modPosition_isOn (f : Position → Position) : (s.modPosition f).isOn = s.isOn := rfl
@[simp] theorem State.modPosition_inHold (f : Position → Position) : (s.modPosition f).inHold = s.inHold := rfl
@[simp] theorem State.modPosition_port (f : Position → Position) (l : Link) : (s.modPosition f).port l = s.port l := rfl
@[simp] theorem State.modReels_live (f : ReelMonitor → ReelMonitor) (l : Link) : (s.modReels f).live l = s.live l := rfl
@[simp] theorem State.modReels_isOn (f : ReelMonitor → ReelMonitor) : (s.modReels f).isOn = s.isOn := rfl
@[simp] theorem State.modReels_inHold (f : ReelMonitor → ReelMonitor) : (s.modReels f).inHold = s.inHold := rfl
@[simp] theorem State.modReels_port (f : ReelMonitor → ReelMonitor) (l : Link) : (s.modReels f).port l = s.port l := rfl
@[simp] theorem State.modGauge_live (f : Gauge → Gauge) (l : Link) : (s.modGauge f).live l = s.live l := rfl
@[simp] theorem State.modGauge_isOn (f : Gauge → Gauge) : (s.modGauge f).isOn = s.isOn := rfl
@[simp] theorem State.modGauge_inHold (f : Gauge → Gauge) : (s.modGauge f).inHold = s.inHold := rfl
@[simp] theorem State.modGauge_port (f : Gauge → Gauge) (l : Link) : (s.modGauge f).port l = s.port l := rfl
@[simp] theorem State.modClock_live (f : Clock → Clock) (l : Link) : (s.modClock f).live l = s.live l := rfl
@[simp] theorem State.modClock_isOn (f : Clock → Clock) : (s.modClock f).isOn = s.isOn := rfl
@[simp] theorem State.modClock_inHold (f : Clock → Clock) : (s.modClock f).inHold = s.inHold := rfl
@[simp] theorem State.modClock_port (f : Clock → Clock) (l : Link) : (s.modClock f).port l = s.port l := rfl
@[simp] theorem State.modTuner_live (f : Tuner → Tuner) (l : Link) : (s.modTuner f).live l = s.live l := rfl
@[simp] theorem State.modTuner_isOn (f : Tuner → Tuner) : (s.modTuner f).isOn = s.isOn := rfl
@[simp] theorem State.modTuner_inHold (f : Tuner → Tuner) : (s.modTuner f).inHold = s.inHold := rfl
@[simp] theorem State.modTuner_port (f : Tuner → Tuner) (l : Link) : (s.modTuner f).port l = s.port l := rfl
@[simp] theorem State.modPresets_live (f : List Preset → List Preset) (l : Link) : (s.modPresets f).live l = s.live l := rfl
@[simp] theorem State.modPresets_isOn (f : List Preset → List Preset) : (s.modPresets f).isOn = s.isOn := rfl
@[simp] theorem State.modPresets_inHold (f : List Preset → List Preset) : (s.modPresets f).inHold = s.inHold := rfl
@[simp] theorem State.modPresets_port (f : List Preset → List Preset) (l : Link) : (s.modPresets f).port l = s.port l := rfl
@[simp] theorem State.modReceiver_live (f : Receiver → Receiver) (l : Link) : (s.modReceiver f).live l = s.live l := rfl
@[simp] theorem State.modReceiver_isOn (f : Receiver → Receiver) : (s.modReceiver f).isOn = s.isOn := rfl
@[simp] theorem State.modReceiver_inHold (f : Receiver → Receiver) : (s.modReceiver f).inHold = s.inHold := rfl
@[simp] theorem State.modReceiver_port (f : Receiver → Receiver) (l : Link) : (s.modReceiver f).port l = s.port l := rfl
@[simp] theorem State.modSlots_live (f : List Slot → List Slot) (l : Link) : (s.modSlots f).live l = s.live l := rfl
@[simp] theorem State.modSlots_isOn (f : List Slot → List Slot) : (s.modSlots f).isOn = s.isOn := rfl
@[simp] theorem State.modSlots_inHold (f : List Slot → List Slot) : (s.modSlots f).inHold = s.inHold := rfl
@[simp] theorem State.modSlots_port (f : List Slot → List Slot) (l : Link) : (s.modSlots f).port l = s.port l := rfl
@[simp] theorem State.modEngine_live (f : Engine → Engine) (l : Link) : (s.modEngine f).live l = s.live l := rfl
@[simp] theorem State.modEngine_isOn (f : Engine → Engine) : (s.modEngine f).isOn = s.isOn := rfl
@[simp] theorem State.modEngine_inHold (f : Engine → Engine) : (s.modEngine f).inHold = s.inHold := rfl
@[simp] theorem State.modEngine_port (f : Engine → Engine) (l : Link) : (s.modEngine f).port l = s.port l := rfl
@[simp] theorem State.modPower_port (f : Power → Power) (l : Link) : (s.modPower f).port l = s.port l := rfl
@[simp] theorem State.modSettings_live (f : Settings → Settings) (l : Link) : (s.modSettings f).live l = s.live l := rfl
@[simp] theorem State.modSettings_isOn (f : Settings → Settings) : (s.modSettings f).isOn = s.isOn := rfl
@[simp] theorem State.modSettings_inHold (f : Settings → Settings) : (s.modSettings f).inHold = s.inHold := rfl
@[simp] theorem State.modSettings_port (f : Settings → Settings) (l : Link) : (s.modSettings f).port l = s.port l := rfl
@[simp] theorem State.modStore_live (f : Store → Store) (l : Link) : (s.modStore f).live l = s.live l := rfl
@[simp] theorem State.modStore_isOn (f : Store → Store) : (s.modStore f).isOn = s.isOn := rfl
@[simp] theorem State.modStore_inHold (f : Store → Store) : (s.modStore f).inHold = s.inHold := rfl
@[simp] theorem State.modStore_port (f : Store → Store) (l : Link) : (s.modStore f).port l = s.port l := rfl
@[simp] theorem State.modNv_live (f : Nonvolatile → Nonvolatile) (l : Link) : (s.modNv f).live l = s.live l := rfl
@[simp] theorem State.modNv_isOn (f : Nonvolatile → Nonvolatile) : (s.modNv f).isOn = s.isOn := rfl
@[simp] theorem State.modNv_inHold (f : Nonvolatile → Nonvolatile) : (s.modNv f).inHold = s.inHold := rfl
@[simp] theorem State.modNv_port (f : Nonvolatile → Nonvolatile) (l : Link) : (s.modNv f).port l = s.port l := rfl
@[simp] theorem State.modPorts_live (f : PerLink Port → PerLink Port) (l : Link) : (s.modPorts f).live l = s.live l := rfl
@[simp] theorem State.modPorts_isOn (f : PerLink Port → PerLink Port) : (s.modPorts f).isOn = s.isOn := rfl
@[simp] theorem State.modPorts_inHold (f : PerLink Port → PerLink Port) : (s.modPorts f).inHold = s.inHold := rfl
@[simp] theorem State.modPort_live (l m : Link) (f : Port → Port) : (s.modPort l f).live m = s.live m := rfl
@[simp] theorem State.modPort_isOn (l : Link) (f : Port → Port) : (s.modPort l f).isOn = s.isOn := rfl
@[simp] theorem State.modPort_inHold (l : Link) (f : Port → Port) : (s.modPort l f).inHold = s.inHold := rfl

end Sys2Proof.Machine
end

