-- ==== Sys2Proof/Laws/TapeFrames.lean ====
section
/-!
SUPPORT. What each operation of the tape, the tuner and the event table leaves as it was: one lemma for each, every untouched record an equation.
-/

namespace Sys2Proof.Machine

@[simp] theorem raiseOn_keeps (l : Link) (k : Kind) (s : State) :
    (raiseOn l k s).transport = s.transport ∧ (raiseOn l k s).protection = s.protection ∧
    (raiseOn l k s).outputs = s.outputs ∧ (raiseOn l k s).pins = s.pins ∧
    (raiseOn l k s).position = s.position ∧ (raiseOn l k s).reels = s.reels ∧ (raiseOn l k s).gauge = s.gauge ∧
    (raiseOn l k s).clock = s.clock ∧ (raiseOn l k s).tuner = s.tuner ∧ (raiseOn l k s).presets = s.presets ∧
    (raiseOn l k s).receiver = s.receiver ∧ (raiseOn l k s).slots = s.slots ∧
    (raiseOn l k s).engine = s.engine ∧ (raiseOn l k s).power = s.power ∧
    (raiseOn l k s).settings = s.settings ∧ (raiseOn l k s).store = s.store ∧ (raiseOn l k s).nv = s.nv ∧
    (raiseOn l k s).pending = s.pending ∧ (raiseOn l k s).draws = s.draws := by
  simp only [raiseOn]
  (repeat' split) <;> simp

@[simp] theorem raise_keeps (k : Kind) (s : State) :
    (raise k s).transport = s.transport ∧ (raise k s).protection = s.protection ∧
    (raise k s).outputs = s.outputs ∧ (raise k s).pins = s.pins ∧ (raise k s).position = s.position ∧
    (raise k s).reels = s.reels ∧ (raise k s).gauge = s.gauge ∧ (raise k s).clock = s.clock ∧
    (raise k s).tuner = s.tuner ∧ (raise k s).presets = s.presets ∧ (raise k s).receiver = s.receiver ∧
    (raise k s).slots = s.slots ∧ (raise k s).engine = s.engine ∧ (raise k s).power = s.power ∧
    (raise k s).settings = s.settings ∧ (raise k s).store = s.store ∧ (raise k s).nv = s.nv ∧
    (raise k s).pending = s.pending ∧ (raise k s).draws = s.draws := by
  simp only [raise]
  simp

@[simp] theorem raiseIf_keeps (c : Bool) (k : Kind) (s : State) :
    (raiseIf c k s).transport = s.transport ∧ (raiseIf c k s).protection = s.protection ∧
    (raiseIf c k s).outputs = s.outputs ∧ (raiseIf c k s).pins = s.pins ∧
    (raiseIf c k s).position = s.position ∧ (raiseIf c k s).reels = s.reels ∧ (raiseIf c k s).gauge = s.gauge ∧
    (raiseIf c k s).clock = s.clock ∧ (raiseIf c k s).tuner = s.tuner ∧ (raiseIf c k s).presets = s.presets ∧
    (raiseIf c k s).receiver = s.receiver ∧ (raiseIf c k s).slots = s.slots ∧
    (raiseIf c k s).engine = s.engine ∧ (raiseIf c k s).power = s.power ∧
    (raiseIf c k s).settings = s.settings ∧ (raiseIf c k s).store = s.store ∧ (raiseIf c k s).nv = s.nv ∧
    (raiseIf c k s).pending = s.pending ∧ (raiseIf c k s).draws = s.draws := by
  simp only [raiseIf]
  (repeat' split) <;> simp

@[simp] theorem markDirty_keeps (a : Area) (s : State) :
    (markDirty a s).transport = s.transport ∧ (markDirty a s).protection = s.protection ∧
    (markDirty a s).outputs = s.outputs ∧ (markDirty a s).pins = s.pins ∧
    (markDirty a s).position = s.position ∧ (markDirty a s).reels = s.reels ∧ (markDirty a s).gauge = s.gauge ∧
    (markDirty a s).clock = s.clock ∧ (markDirty a s).tuner = s.tuner ∧ (markDirty a s).presets = s.presets ∧
    (markDirty a s).receiver = s.receiver ∧ (markDirty a s).slots = s.slots ∧
    (markDirty a s).engine = s.engine ∧ (markDirty a s).power = s.power ∧
    (markDirty a s).settings = s.settings ∧ (markDirty a s).nv = s.nv ∧ (markDirty a s).ports = s.ports ∧
    (markDirty a s).pending = s.pending ∧ (markDirty a s).draws = s.draws := by
  simp only [markDirty]
  simp

@[simp] theorem judgeAttention_keeps (s : State) :
    (judgeAttention s).transport = s.transport ∧ (judgeAttention s).protection = s.protection ∧
    (judgeAttention s).outputs = s.outputs ∧ (judgeAttention s).pins = s.pins ∧
    (judgeAttention s).position = s.position ∧ (judgeAttention s).reels = s.reels ∧
    (judgeAttention s).gauge = s.gauge ∧ (judgeAttention s).clock = s.clock ∧
    (judgeAttention s).tuner = s.tuner ∧ (judgeAttention s).presets = s.presets ∧
    (judgeAttention s).receiver = s.receiver ∧ (judgeAttention s).slots = s.slots ∧
    (judgeAttention s).engine = s.engine ∧ (judgeAttention s).power = s.power ∧
    (judgeAttention s).settings = s.settings ∧ (judgeAttention s).store = s.store ∧
    (judgeAttention s).nv = s.nv ∧ (judgeAttention s).pending = s.pending ∧ (judgeAttention s).draws = s.draws := by
  simp only [judgeAttention]
  simp

@[simp] theorem chooseSource_keeps (s : State) :
    (chooseSource s).transport = s.transport ∧ (chooseSource s).protection = s.protection ∧
    (chooseSource s).outputs = s.outputs ∧ (chooseSource s).pins = s.pins ∧
    (chooseSource s).position = s.position ∧ (chooseSource s).reels = s.reels ∧
    (chooseSource s).gauge = s.gauge ∧ (chooseSource s).tuner = s.tuner ∧
    (chooseSource s).presets = s.presets ∧ (chooseSource s).receiver = s.receiver ∧
    (chooseSource s).slots = s.slots ∧ (chooseSource s).engine = s.engine ∧ (chooseSource s).power = s.power ∧
    (chooseSource s).settings = s.settings ∧ (chooseSource s).store = s.store ∧ (chooseSource s).nv = s.nv ∧
    (chooseSource s).ports = s.ports ∧ (chooseSource s).pending = s.pending ∧ (chooseSource s).draws = s.draws := by
  simp only [chooseSource]
  simp

@[simp] theorem gaugeAtRest_keeps (s : State) :
    (gaugeAtRest s).transport = s.transport ∧ (gaugeAtRest s).protection = s.protection ∧
    (gaugeAtRest s).outputs = s.outputs ∧ (gaugeAtRest s).pins = s.pins ∧
    (gaugeAtRest s).position = s.position ∧ (gaugeAtRest s).reels = s.reels ∧ (gaugeAtRest s).clock = s.clock ∧
    (gaugeAtRest s).tuner = s.tuner ∧ (gaugeAtRest s).presets = s.presets ∧
    (gaugeAtRest s).receiver = s.receiver ∧ (gaugeAtRest s).slots = s.slots ∧
    (gaugeAtRest s).engine = s.engine ∧ (gaugeAtRest s).power = s.power ∧
    (gaugeAtRest s).settings = s.settings ∧ (gaugeAtRest s).store = s.store ∧ (gaugeAtRest s).nv = s.nv ∧
    (gaugeAtRest s).pending = s.pending ∧ (gaugeAtRest s).draws = s.draws := by
  simp only [gaugeAtRest]
  simp

@[simp] theorem clearEstimate_keeps (s : State) :
    (clearEstimate s).transport = s.transport ∧ (clearEstimate s).protection = s.protection ∧
    (clearEstimate s).outputs = s.outputs ∧ (clearEstimate s).pins = s.pins ∧
    (clearEstimate s).position = s.position ∧ (clearEstimate s).reels = s.reels ∧
    (clearEstimate s).clock = s.clock ∧ (clearEstimate s).tuner = s.tuner ∧
    (clearEstimate s).presets = s.presets ∧ (clearEstimate s).receiver = s.receiver ∧
    (clearEstimate s).slots = s.slots ∧ (clearEstimate s).engine = s.engine ∧
    (clearEstimate s).power = s.power ∧ (clearEstimate s).settings = s.settings ∧
    (clearEstimate s).store = s.store ∧ (clearEstimate s).nv = s.nv ∧ (clearEstimate s).pending = s.pending ∧
    (clearEstimate s).draws = s.draws := by
  simp only [clearEstimate]
  simp

@[simp] theorem offerPeriods_keeps (s : State) :
    (offerPeriods s).transport = s.transport ∧ (offerPeriods s).protection = s.protection ∧
    (offerPeriods s).outputs = s.outputs ∧ (offerPeriods s).pins = s.pins ∧
    (offerPeriods s).position = s.position ∧ (offerPeriods s).reels = s.reels ∧
    (offerPeriods s).clock = s.clock ∧ (offerPeriods s).tuner = s.tuner ∧
    (offerPeriods s).presets = s.presets ∧ (offerPeriods s).receiver = s.receiver ∧
    (offerPeriods s).slots = s.slots ∧ (offerPeriods s).engine = s.engine ∧ (offerPeriods s).power = s.power ∧
    (offerPeriods s).settings = s.settings ∧ (offerPeriods s).store = s.store ∧ (offerPeriods s).nv = s.nv ∧
    (offerPeriods s).pending = s.pending ∧ (offerPeriods s).draws = s.draws := by
  simp only [offerPeriods]
  (repeat' split) <;> simp

@[simp] theorem setActiveClass_keeps (c : Option Nat) (s : State) :
    (setActiveClass c s).transport = s.transport ∧ (setActiveClass c s).protection = s.protection ∧
    (setActiveClass c s).outputs = s.outputs ∧ (setActiveClass c s).pins = s.pins ∧
    (setActiveClass c s).position = s.position ∧ (setActiveClass c s).reels = s.reels ∧
    (setActiveClass c s).clock = s.clock ∧ (setActiveClass c s).tuner = s.tuner ∧
    (setActiveClass c s).presets = s.presets ∧ (setActiveClass c s).receiver = s.receiver ∧
    (setActiveClass c s).slots = s.slots ∧ (setActiveClass c s).engine = s.engine ∧
    (setActiveClass c s).power = s.power ∧ (setActiveClass c s).settings = s.settings ∧
    (setActiveClass c s).store = s.store ∧ (setActiveClass c s).nv = s.nv ∧
    (setActiveClass c s).ports = s.ports ∧ (setActiveClass c s).pending = s.pending ∧
    (setActiveClass c s).draws = s.draws := by
  simp only [setActiveClass]
  simp

@[simp] theorem driveReel_keeps (s : State) :
    (driveReel s).transport = s.transport ∧ (driveReel s).protection = s.protection ∧
    (driveReel s).pins = s.pins ∧ (driveReel s).position = s.position ∧ (driveReel s).reels = s.reels ∧
    (driveReel s).gauge = s.gauge ∧ (driveReel s).clock = s.clock ∧ (driveReel s).tuner = s.tuner ∧
    (driveReel s).presets = s.presets ∧ (driveReel s).receiver = s.receiver ∧ (driveReel s).slots = s.slots ∧
    (driveReel s).engine = s.engine ∧ (driveReel s).power = s.power ∧ (driveReel s).settings = s.settings ∧
    (driveReel s).store = s.store ∧ (driveReel s).nv = s.nv ∧ (driveReel s).ports = s.ports ∧
    (driveReel s).pending = s.pending ∧ (driveReel s).draws = s.draws := by
  simp only [driveReel]
  simp

@[simp] theorem reelPulse_keeps (reel : Reel) (instant : Nat) (s : State) :
    (reelPulse reel instant s).transport = s.transport ∧ (reelPulse reel instant s).protection = s.protection ∧
    (reelPulse reel instant s).pins = s.pins ∧ (reelPulse reel instant s).position = s.position ∧
    (reelPulse reel instant s).clock = s.clock ∧ (reelPulse reel instant s).tuner = s.tuner ∧
    (reelPulse reel instant s).presets = s.presets ∧ (reelPulse reel instant s).receiver = s.receiver ∧
    (reelPulse reel instant s).slots = s.slots ∧ (reelPulse reel instant s).engine = s.engine ∧
    (reelPulse reel instant s).power = s.power ∧ (reelPulse reel instant s).settings = s.settings ∧
    (reelPulse reel instant s).store = s.store ∧ (reelPulse reel instant s).nv = s.nv ∧
    (reelPulse reel instant s).pending = s.pending ∧ (reelPulse reel instant s).draws = s.draws := by
  simp only [reelPulse]
  (repeat' split) <;> simp

@[simp] theorem offerMark_keeps (s : State) :
    (offerMark s).transport = s.transport ∧ (offerMark s).protection = s.protection ∧
    (offerMark s).outputs = s.outputs ∧ (offerMark s).pins = s.pins ∧ (offerMark s).reels = s.reels ∧
    (offerMark s).gauge = s.gauge ∧ (offerMark s).clock = s.clock ∧ (offerMark s).tuner = s.tuner ∧
    (offerMark s).presets = s.presets ∧ (offerMark s).receiver = s.receiver ∧ (offerMark s).slots = s.slots ∧
    (offerMark s).engine = s.engine ∧ (offerMark s).power = s.power ∧ (offerMark s).settings = s.settings ∧
    (offerMark s).store = s.store ∧ (offerMark s).nv = s.nv ∧ (offerMark s).ports = s.ports ∧
    (offerMark s).pending = s.pending ∧ (offerMark s).draws = s.draws := by
  simp only [offerMark]
  simp

@[simp] theorem recordingStart_keeps (s : State) :
    (recordingStart s).transport = s.transport ∧ (recordingStart s).protection = s.protection ∧
    (recordingStart s).outputs = s.outputs ∧ (recordingStart s).pins = s.pins ∧
    (recordingStart s).reels = s.reels ∧ (recordingStart s).gauge = s.gauge ∧
    (recordingStart s).clock = s.clock ∧ (recordingStart s).tuner = s.tuner ∧
    (recordingStart s).presets = s.presets ∧ (recordingStart s).receiver = s.receiver ∧
    (recordingStart s).slots = s.slots ∧ (recordingStart s).engine = s.engine ∧
    (recordingStart s).power = s.power ∧ (recordingStart s).settings = s.settings ∧
    (recordingStart s).store = s.store ∧ (recordingStart s).nv = s.nv ∧ (recordingStart s).ports = s.ports ∧
    (recordingStart s).pending = s.pending ∧ (recordingStart s).draws = s.draws := by
  simp only [recordingStart]
  simp

@[simp] theorem endSearch_keeps (o : SearchOutcome) (s : State) :
    (endSearch o s).transport = s.transport ∧ (endSearch o s).protection = s.protection ∧
    (endSearch o s).outputs = s.outputs ∧ (endSearch o s).pins = s.pins ∧ (endSearch o s).reels = s.reels ∧
    (endSearch o s).gauge = s.gauge ∧ (endSearch o s).clock = s.clock ∧ (endSearch o s).tuner = s.tuner ∧
    (endSearch o s).presets = s.presets ∧ (endSearch o s).receiver = s.receiver ∧
    (endSearch o s).slots = s.slots ∧ (endSearch o s).engine = s.engine ∧ (endSearch o s).power = s.power ∧
    (endSearch o s).settings = s.settings ∧ (endSearch o s).store = s.store ∧ (endSearch o s).nv = s.nv ∧
    (endSearch o s).pending = s.pending ∧ (endSearch o s).draws = s.draws := by
  simp only [endSearch]
  (repeat' split) <;> simp

@[simp] theorem judgeLive_keeps (s : State) :
    (judgeLive s).transport = s.transport ∧ (judgeLive s).protection = s.protection ∧
    (judgeLive s).outputs = s.outputs ∧ (judgeLive s).pins = s.pins ∧ (judgeLive s).position = s.position ∧
    (judgeLive s).reels = s.reels ∧ (judgeLive s).gauge = s.gauge ∧ (judgeLive s).clock = s.clock ∧
    (judgeLive s).tuner = s.tuner ∧ (judgeLive s).presets = s.presets ∧ (judgeLive s).slots = s.slots ∧
    (judgeLive s).engine = s.engine ∧ (judgeLive s).power = s.power ∧ (judgeLive s).settings = s.settings ∧
    (judgeLive s).store = s.store ∧ (judgeLive s).nv = s.nv ∧ (judgeLive s).ports = s.ports ∧
    (judgeLive s).pending = s.pending ∧ (judgeLive s).draws = s.draws := by
  simp only [judgeLive]
  simp

@[simp] theorem dropCandidate_keeps (s : State) :
    (dropCandidate s).transport = s.transport ∧ (dropCandidate s).protection = s.protection ∧
    (dropCandidate s).outputs = s.outputs ∧ (dropCandidate s).pins = s.pins ∧
    (dropCandidate s).position = s.position ∧ (dropCandidate s).reels = s.reels ∧
    (dropCandidate s).gauge = s.gauge ∧ (dropCandidate s).tuner = s.tuner ∧
    (dropCandidate s).presets = s.presets ∧ (dropCandidate s).receiver = s.receiver ∧
    (dropCandidate s).slots = s.slots ∧ (dropCandidate s).engine = s.engine ∧
    (dropCandidate s).power = s.power ∧ (dropCandidate s).settings = s.settings ∧
    (dropCandidate s).store = s.store ∧ (dropCandidate s).nv = s.nv ∧ (dropCandidate s).ports = s.ports ∧
    (dropCandidate s).pending = s.pending ∧ (dropCandidate s).draws = s.draws := by
  simp only [dropCandidate]
  simp

@[simp] theorem tuningChange_keeps (s : State) :
    (tuningChange s).transport = s.transport ∧ (tuningChange s).protection = s.protection ∧
    (tuningChange s).outputs = s.outputs ∧ (tuningChange s).pins = s.pins ∧
    (tuningChange s).position = s.position ∧ (tuningChange s).reels = s.reels ∧
    (tuningChange s).gauge = s.gauge ∧ (tuningChange s).tuner = s.tuner ∧
    (tuningChange s).presets = s.presets ∧ (tuningChange s).slots = s.slots ∧
    (tuningChange s).engine = s.engine ∧ (tuningChange s).power = s.power ∧
    (tuningChange s).settings = s.settings ∧ (tuningChange s).store = s.store ∧ (tuningChange s).nv = s.nv ∧
    (tuningChange s).ports = s.ports ∧ (tuningChange s).pending = s.pending ∧ (tuningChange s).draws = s.draws := by
  simp only [tuningChange]
  simp

@[simp] theorem writeModule_keeps (s : State) :
    (writeModule s).transport = s.transport ∧ (writeModule s).protection = s.protection ∧
    (writeModule s).pins = s.pins ∧ (writeModule s).position = s.position ∧ (writeModule s).reels = s.reels ∧
    (writeModule s).gauge = s.gauge ∧ (writeModule s).clock = s.clock ∧ (writeModule s).tuner = s.tuner ∧
    (writeModule s).presets = s.presets ∧ (writeModule s).receiver = s.receiver ∧
    (writeModule s).slots = s.slots ∧ (writeModule s).engine = s.engine ∧ (writeModule s).power = s.power ∧
    (writeModule s).settings = s.settings ∧ (writeModule s).store = s.store ∧ (writeModule s).nv = s.nv ∧
    (writeModule s).ports = s.ports ∧ (writeModule s).pending = s.pending ∧ (writeModule s).draws = s.draws := by
  simp only [writeModule]
  (repeat' split) <;> simp

@[simp] theorem correctionWrite_keeps (fine : Int) (aft : Bool) (correction : Int) (s : State) :
    (correctionWrite fine aft correction s).transport = s.transport ∧
    (correctionWrite fine aft correction s).protection = s.protection ∧
    (correctionWrite fine aft correction s).pins = s.pins ∧
    (correctionWrite fine aft correction s).position = s.position ∧
    (correctionWrite fine aft correction s).reels = s.reels ∧
    (correctionWrite fine aft correction s).gauge = s.gauge ∧
    (correctionWrite fine aft correction s).clock = s.clock ∧
    (correctionWrite fine aft correction s).presets = s.presets ∧
    (correctionWrite fine aft correction s).receiver = s.receiver ∧
    (correctionWrite fine aft correction s).slots = s.slots ∧
    (correctionWrite fine aft correction s).engine = s.engine ∧
    (correctionWrite fine aft correction s).power = s.power ∧
    (correctionWrite fine aft correction s).settings = s.settings ∧
    (correctionWrite fine aft correction s).store = s.store ∧
    (correctionWrite fine aft correction s).nv = s.nv ∧
    (correctionWrite fine aft correction s).ports = s.ports ∧
    (correctionWrite fine aft correction s).pending = s.pending ∧
    (correctionWrite fine aft correction s).draws = s.draws := by
  simp only [correctionWrite]
  simp

@[simp] theorem tuneModule_keeps (x : Tuning) (s : State) :
    (tuneModule x s).transport = s.transport ∧ (tuneModule x s).protection = s.protection ∧
    (tuneModule x s).pins = s.pins ∧ (tuneModule x s).position = s.position ∧ (tuneModule x s).reels = s.reels ∧
    (tuneModule x s).gauge = s.gauge ∧ (tuneModule x s).clock = s.clock ∧ (tuneModule x s).presets = s.presets ∧
    (tuneModule x s).receiver = s.receiver ∧ (tuneModule x s).slots = s.slots ∧
    (tuneModule x s).engine = s.engine ∧ (tuneModule x s).power = s.power ∧
    (tuneModule x s).settings = s.settings ∧ (tuneModule x s).store = s.store ∧ (tuneModule x s).nv = s.nv ∧
    (tuneModule x s).ports = s.ports ∧ (tuneModule x s).pending = s.pending ∧ (tuneModule x s).draws = s.draws := by
  simp only [tuneModule]
  simp

/-- The tuner record after a tuning write toward the module, a search step's too (R95). -/
@[simp] theorem tuneModule_tuner (x : Tuning) (s : State) : (tuneModule x s).tuner = s.tuner.tuned s.isOn x := by
  simp only [tuneModule]
  simp

@[simp] theorem tuningWrite_keeps (x : Tuning) (s : State) :
    (tuningWrite x s).transport = s.transport ∧ (tuningWrite x s).protection = s.protection ∧
    (tuningWrite x s).pins = s.pins ∧ (tuningWrite x s).position = s.position ∧
    (tuningWrite x s).reels = s.reels ∧ (tuningWrite x s).gauge = s.gauge ∧
    (tuningWrite x s).presets = s.presets ∧ (tuningWrite x s).slots = s.slots ∧
    (tuningWrite x s).engine = s.engine ∧ (tuningWrite x s).power = s.power ∧
    (tuningWrite x s).settings = s.settings ∧ (tuningWrite x s).store = s.store ∧ (tuningWrite x s).nv = s.nv ∧
    (tuningWrite x s).pending = s.pending ∧ (tuningWrite x s).draws = s.draws := by
  simp only [tuningWrite]
  simp

@[simp] theorem detachPreset_keeps (s : State) :
    (detachPreset s).transport = s.transport ∧ (detachPreset s).protection = s.protection ∧
    (detachPreset s).outputs = s.outputs ∧ (detachPreset s).pins = s.pins ∧
    (detachPreset s).position = s.position ∧ (detachPreset s).reels = s.reels ∧
    (detachPreset s).gauge = s.gauge ∧ (detachPreset s).presets = s.presets ∧
    (detachPreset s).slots = s.slots ∧ (detachPreset s).engine = s.engine ∧ (detachPreset s).power = s.power ∧
    (detachPreset s).settings = s.settings ∧ (detachPreset s).store = s.store ∧ (detachPreset s).nv = s.nv ∧
    (detachPreset s).pending = s.pending ∧ (detachPreset s).draws = s.draws := by
  simp only [detachPreset]
  simp

@[simp] theorem applyPreset_keeps (n : Nat) (s : State) :
    (applyPreset n s).transport = s.transport ∧ (applyPreset n s).protection = s.protection ∧
    (applyPreset n s).pins = s.pins ∧ (applyPreset n s).position = s.position ∧
    (applyPreset n s).reels = s.reels ∧ (applyPreset n s).gauge = s.gauge ∧
    (applyPreset n s).presets = s.presets ∧ (applyPreset n s).slots = s.slots ∧
    (applyPreset n s).engine = s.engine ∧ (applyPreset n s).power = s.power ∧
    (applyPreset n s).settings = s.settings ∧ (applyPreset n s).store = s.store ∧ (applyPreset n s).nv = s.nv ∧
    (applyPreset n s).pending = s.pending ∧ (applyPreset n s).draws = s.draws := by
  simp only [applyPreset]
  (repeat' split) <;> simp

@[simp] theorem reapplyPreset_keeps (n : Nat) (s : State) :
    (reapplyPreset n s).transport = s.transport ∧ (reapplyPreset n s).protection = s.protection ∧
    (reapplyPreset n s).pins = s.pins ∧ (reapplyPreset n s).position = s.position ∧
    (reapplyPreset n s).reels = s.reels ∧ (reapplyPreset n s).gauge = s.gauge ∧
    (reapplyPreset n s).presets = s.presets ∧ (reapplyPreset n s).slots = s.slots ∧
    (reapplyPreset n s).engine = s.engine ∧ (reapplyPreset n s).power = s.power ∧
    (reapplyPreset n s).settings = s.settings ∧ (reapplyPreset n s).store = s.store ∧
    (reapplyPreset n s).nv = s.nv ∧ (reapplyPreset n s).pending = s.pending ∧
    (reapplyPreset n s).draws = s.draws := by
  simp only [reapplyPreset]
  (repeat' split) <;> simp

@[simp] theorem followPreset_keeps (n : Nat) (old new : Preset) (s : State) :
    (followPreset n old new s).transport = s.transport ∧ (followPreset n old new s).protection = s.protection ∧
    (followPreset n old new s).pins = s.pins ∧ (followPreset n old new s).position = s.position ∧
    (followPreset n old new s).reels = s.reels ∧ (followPreset n old new s).gauge = s.gauge ∧
    (followPreset n old new s).presets = s.presets ∧ (followPreset n old new s).slots = s.slots ∧
    (followPreset n old new s).engine = s.engine ∧ (followPreset n old new s).power = s.power ∧
    (followPreset n old new s).settings = s.settings ∧ (followPreset n old new s).store = s.store ∧
    (followPreset n old new s).nv = s.nv ∧ (followPreset n old new s).pending = s.pending ∧
    (followPreset n old new s).draws = s.draws := by
  simp only [followPreset]
  (repeat' split) <;> simp

@[simp] theorem writePreset_keeps (n : Nat) (p : Preset) (s : State) :
    (writePreset n p s).transport = s.transport ∧ (writePreset n p s).protection = s.protection ∧
    (writePreset n p s).pins = s.pins ∧ (writePreset n p s).position = s.position ∧
    (writePreset n p s).reels = s.reels ∧ (writePreset n p s).gauge = s.gauge ∧
    (writePreset n p s).slots = s.slots ∧ (writePreset n p s).engine = s.engine ∧
    (writePreset n p s).power = s.power ∧ (writePreset n p s).settings = s.settings ∧
    (writePreset n p s).nv = s.nv ∧ (writePreset n p s).pending = s.pending ∧
    (writePreset n p s).draws = s.draws := by
  simp only [writePreset]
  (repeat' split) <;> simp

@[simp] theorem setTunerHolder_keeps (h : TunerHolder) (s : State) :
    (setTunerHolder h s).transport = s.transport ∧ (setTunerHolder h s).protection = s.protection ∧
    (setTunerHolder h s).outputs = s.outputs ∧ (setTunerHolder h s).pins = s.pins ∧
    (setTunerHolder h s).position = s.position ∧ (setTunerHolder h s).reels = s.reels ∧
    (setTunerHolder h s).gauge = s.gauge ∧ (setTunerHolder h s).presets = s.presets ∧
    (setTunerHolder h s).receiver = s.receiver ∧ (setTunerHolder h s).slots = s.slots ∧
    (setTunerHolder h s).engine = s.engine ∧ (setTunerHolder h s).power = s.power ∧
    (setTunerHolder h s).settings = s.settings ∧ (setTunerHolder h s).store = s.store ∧
    (setTunerHolder h s).nv = s.nv ∧ (setTunerHolder h s).pending = s.pending ∧
    (setTunerHolder h s).draws = s.draws := by
  simp only [setTunerHolder]
  (repeat' split) <;> simp

@[simp] theorem endStationSearch_keeps (x : StationSearch) (o : StationOutcome) (divider : Nat) (s : State) :
    (endStationSearch x o divider s).transport = s.transport ∧
    (endStationSearch x o divider s).protection = s.protection ∧
    (endStationSearch x o divider s).outputs = s.outputs ∧ (endStationSearch x o divider s).pins = s.pins ∧
    (endStationSearch x o divider s).position = s.position ∧ (endStationSearch x o divider s).reels = s.reels ∧
    (endStationSearch x o divider s).gauge = s.gauge ∧ (endStationSearch x o divider s).presets = s.presets ∧
    (endStationSearch x o divider s).slots = s.slots ∧ (endStationSearch x o divider s).engine = s.engine ∧
    (endStationSearch x o divider s).power = s.power ∧ (endStationSearch x o divider s).settings = s.settings ∧
    (endStationSearch x o divider s).store = s.store ∧ (endStationSearch x o divider s).nv = s.nv ∧
    (endStationSearch x o divider s).pending = s.pending ∧ (endStationSearch x o divider s).draws = s.draws := by
  simp only [endStationSearch]
  simp

@[simp] theorem abortStationSearch_keeps (s : State) :
    (abortStationSearch s).transport = s.transport ∧ (abortStationSearch s).protection = s.protection ∧
    (abortStationSearch s).outputs = s.outputs ∧ (abortStationSearch s).pins = s.pins ∧
    (abortStationSearch s).position = s.position ∧ (abortStationSearch s).reels = s.reels ∧
    (abortStationSearch s).gauge = s.gauge ∧ (abortStationSearch s).presets = s.presets ∧
    (abortStationSearch s).slots = s.slots ∧ (abortStationSearch s).engine = s.engine ∧
    (abortStationSearch s).power = s.power ∧ (abortStationSearch s).settings = s.settings ∧
    (abortStationSearch s).store = s.store ∧ (abortStationSearch s).nv = s.nv ∧
    (abortStationSearch s).pending = s.pending ∧ (abortStationSearch s).draws = s.draws := by
  simp only [abortStationSearch]
  (repeat' split) <;> simp

@[simp] theorem tunerOff_keeps (s : State) :
    (tunerOff s).transport = s.transport ∧ (tunerOff s).protection = s.protection ∧
    (tunerOff s).pins = s.pins ∧ (tunerOff s).position = s.position ∧ (tunerOff s).reels = s.reels ∧
    (tunerOff s).gauge = s.gauge ∧ (tunerOff s).presets = s.presets ∧ (tunerOff s).slots = s.slots ∧
    (tunerOff s).engine = s.engine ∧ (tunerOff s).power = s.power ∧ (tunerOff s).settings = s.settings ∧
    (tunerOff s).store = s.store ∧ (tunerOff s).nv = s.nv ∧ (tunerOff s).pending = s.pending ∧
    (tunerOff s).draws = s.draws := by
  simp only [tunerOff]
  (repeat' split) <;> simp

@[simp] theorem tunerOn_keeps (s : State) :
    (tunerOn s).transport = s.transport ∧ (tunerOn s).protection = s.protection ∧ (tunerOn s).pins = s.pins ∧
    (tunerOn s).position = s.position ∧ (tunerOn s).reels = s.reels ∧ (tunerOn s).gauge = s.gauge ∧
    (tunerOn s).presets = s.presets ∧ (tunerOn s).slots = s.slots ∧ (tunerOn s).engine = s.engine ∧
    (tunerOn s).power = s.power ∧ (tunerOn s).settings = s.settings ∧ (tunerOn s).store = s.store ∧
    (tunerOn s).nv = s.nv ∧ (tunerOn s).pending = s.pending ∧ (tunerOn s).draws = s.draws := by
  simp only [tunerOn]
  (repeat' split) <;> simp

@[simp] theorem applyIfStored_keeps (n : Nat) (s : State) :
    (applyIfStored n s).transport = s.transport ∧ (applyIfStored n s).protection = s.protection ∧
    (applyIfStored n s).pins = s.pins ∧ (applyIfStored n s).position = s.position ∧
    (applyIfStored n s).reels = s.reels ∧ (applyIfStored n s).gauge = s.gauge ∧
    (applyIfStored n s).presets = s.presets ∧ (applyIfStored n s).slots = s.slots ∧
    (applyIfStored n s).engine = s.engine ∧ (applyIfStored n s).power = s.power ∧
    (applyIfStored n s).settings = s.settings ∧ (applyIfStored n s).store = s.store ∧
    (applyIfStored n s).nv = s.nv ∧ (applyIfStored n s).pending = s.pending ∧
    (applyIfStored n s).draws = s.draws := by
  simp only [applyIfStored]
  (repeat' split) <;> simp

@[simp] theorem tunerTake_keeps (n : Nat) (s : State) :
    (tunerTake n s).transport = s.transport ∧ (tunerTake n s).protection = s.protection ∧
    (tunerTake n s).pins = s.pins ∧ (tunerTake n s).position = s.position ∧ (tunerTake n s).reels = s.reels ∧
    (tunerTake n s).gauge = s.gauge ∧ (tunerTake n s).presets = s.presets ∧ (tunerTake n s).slots = s.slots ∧
    (tunerTake n s).engine = s.engine ∧ (tunerTake n s).power = s.power ∧
    (tunerTake n s).settings = s.settings ∧ (tunerTake n s).store = s.store ∧ (tunerTake n s).nv = s.nv ∧
    (tunerTake n s).pending = s.pending ∧ (tunerTake n s).draws = s.draws := by
  simp only [tunerTake]
  (repeat' split) <;> simp

@[simp] theorem tunerRetune_keeps (n : Nat) (s : State) :
    (tunerRetune n s).transport = s.transport ∧ (tunerRetune n s).protection = s.protection ∧
    (tunerRetune n s).pins = s.pins ∧ (tunerRetune n s).position = s.position ∧
    (tunerRetune n s).reels = s.reels ∧ (tunerRetune n s).gauge = s.gauge ∧
    (tunerRetune n s).presets = s.presets ∧ (tunerRetune n s).slots = s.slots ∧
    (tunerRetune n s).engine = s.engine ∧ (tunerRetune n s).power = s.power ∧
    (tunerRetune n s).settings = s.settings ∧ (tunerRetune n s).store = s.store ∧ (tunerRetune n s).nv = s.nv ∧
    (tunerRetune n s).pending = s.pending ∧ (tunerRetune n s).draws = s.draws := by
  simp only [tunerRetune]
  (repeat' split) <;> simp

@[simp] theorem settleStale_keeps (s : State) :
    (settleStale s).transport = s.transport ∧ (settleStale s).protection = s.protection ∧
    (settleStale s).pins = s.pins ∧ (settleStale s).position = s.position ∧ (settleStale s).reels = s.reels ∧
    (settleStale s).gauge = s.gauge ∧ (settleStale s).presets = s.presets ∧ (settleStale s).slots = s.slots ∧
    (settleStale s).engine = s.engine ∧ (settleStale s).power = s.power ∧
    (settleStale s).settings = s.settings ∧ (settleStale s).store = s.store ∧ (settleStale s).nv = s.nv ∧
    (settleStale s).pending = s.pending ∧ (settleStale s).draws = s.draws := by
  simp only [settleStale]
  (repeat' split) <;> simp

@[simp] theorem tunerRelease_keeps (s : State) :
    (tunerRelease s).transport = s.transport ∧ (tunerRelease s).protection = s.protection ∧
    (tunerRelease s).pins = s.pins ∧ (tunerRelease s).position = s.position ∧
    (tunerRelease s).reels = s.reels ∧ (tunerRelease s).gauge = s.gauge ∧
    (tunerRelease s).presets = s.presets ∧ (tunerRelease s).slots = s.slots ∧
    (tunerRelease s).engine = s.engine ∧ (tunerRelease s).power = s.power ∧
    (tunerRelease s).settings = s.settings ∧ (tunerRelease s).store = s.store ∧ (tunerRelease s).nv = s.nv ∧
    (tunerRelease s).pending = s.pending ∧ (tunerRelease s).draws = s.draws := by
  simp only [tunerRelease]
  (repeat' split) <;> simp

@[simp] theorem refuse_fst (why : Refuse) (s : State) : (refuse why s).1 = .refuse why := rfl
@[simp] theorem refuse_snd (why : Refuse) (s : State) : (refuse why s).2 = s := rfl

@[simp] theorem accept_fst (s : State) : (accept s).1 = .reply 0 := rfl
@[simp] theorem accept_snd (s : State) : (accept s).2 = s := rfl

@[simp] theorem acceptValue_snd (v : Int) (s : State) : (acceptValue v s).2 = s := rfl

@[simp] theorem acceptWrite_snd (sel : Selector) (n : Nat) (s : State) : (acceptWrite sel n s).2 = s := rfl

@[simp] theorem resetPort_keeps (l : Link) (s : State) :
    (resetPort l s).transport = s.transport ∧ (resetPort l s).protection = s.protection ∧
    (resetPort l s).outputs = s.outputs ∧ (resetPort l s).pins = s.pins ∧
    (resetPort l s).position = s.position ∧ (resetPort l s).reels = s.reels ∧ (resetPort l s).gauge = s.gauge ∧
    (resetPort l s).tuner = s.tuner ∧ (resetPort l s).presets = s.presets ∧ (resetPort l s).slots = s.slots ∧
    (resetPort l s).engine = s.engine ∧ (resetPort l s).power = s.power ∧
    (resetPort l s).settings = s.settings ∧ (resetPort l s).store = s.store ∧ (resetPort l s).nv = s.nv ∧
    (resetPort l s).pending = s.pending ∧ (resetPort l s).draws = s.draws := by
  simp only [resetPort]
  simp

@[simp] theorem changePower_keeps (into : PowerState) (cause : PowerCause) (s : State) :
    (changePower into cause s).transport = s.transport ∧ (changePower into cause s).protection = s.protection ∧
    (changePower into cause s).pins = s.pins ∧ (changePower into cause s).position = s.position ∧
    (changePower into cause s).reels = s.reels ∧ (changePower into cause s).gauge = s.gauge ∧
    (changePower into cause s).clock = s.clock ∧ (changePower into cause s).tuner = s.tuner ∧
    (changePower into cause s).presets = s.presets ∧ (changePower into cause s).receiver = s.receiver ∧
    (changePower into cause s).slots = s.slots ∧ (changePower into cause s).engine = s.engine ∧
    (changePower into cause s).settings = s.settings ∧ (changePower into cause s).store = s.store ∧
    (changePower into cause s).nv = s.nv ∧ (changePower into cause s).ports = s.ports ∧
    (changePower into cause s).pending = s.pending ∧ (changePower into cause s).draws = s.draws := by
  simp only [changePower]
  simp

@[simp] theorem enterOn_keeps (cause : PowerCause) (s : State) :
    (enterOn cause s).transport = s.transport ∧ (enterOn cause s).protection = s.protection ∧
    (enterOn cause s).pins = s.pins ∧ (enterOn cause s).position = s.position ∧
    (enterOn cause s).reels = s.reels ∧ (enterOn cause s).gauge = s.gauge ∧
    (enterOn cause s).presets = s.presets ∧ (enterOn cause s).slots = s.slots ∧
    (enterOn cause s).engine = s.engine ∧ (enterOn cause s).settings = s.settings ∧
    (enterOn cause s).store = s.store ∧ (enterOn cause s).nv = s.nv ∧ (enterOn cause s).pending = s.pending ∧
    (enterOn cause s).draws = s.draws := by
  simp only [enterOn]
  simp

@[simp] theorem leaveOn_keeps (cause : PowerCause) (s : State) :
    (leaveOn cause s).transport = s.transport ∧ (leaveOn cause s).protection = s.protection ∧
    (leaveOn cause s).pins = s.pins ∧ (leaveOn cause s).position = s.position ∧
    (leaveOn cause s).reels = s.reels ∧ (leaveOn cause s).gauge = s.gauge ∧
    (leaveOn cause s).presets = s.presets ∧ (leaveOn cause s).slots = s.slots ∧
    (leaveOn cause s).engine = s.engine ∧ (leaveOn cause s).settings = s.settings ∧
    (leaveOn cause s).store = s.store ∧ (leaveOn cause s).nv = s.nv ∧ (leaveOn cause s).pending = s.pending ∧
    (leaveOn cause s).draws = s.draws := by
  simp only [leaveOn]
  simp

@[simp] theorem judgeSwitchOff_keeps (s : State) :
    (judgeSwitchOff s).transport = s.transport ∧ (judgeSwitchOff s).protection = s.protection ∧
    (judgeSwitchOff s).pins = s.pins ∧ (judgeSwitchOff s).position = s.position ∧
    (judgeSwitchOff s).reels = s.reels ∧ (judgeSwitchOff s).gauge = s.gauge ∧
    (judgeSwitchOff s).presets = s.presets ∧ (judgeSwitchOff s).slots = s.slots ∧
    (judgeSwitchOff s).engine = s.engine ∧ (judgeSwitchOff s).settings = s.settings ∧
    (judgeSwitchOff s).store = s.store ∧ (judgeSwitchOff s).nv = s.nv ∧
    (judgeSwitchOff s).pending = s.pending ∧ (judgeSwitchOff s).draws = s.draws := by
  simp only [judgeSwitchOff]
  (repeat' split) <;> simp

@[simp] theorem pendSwitchOff_keeps (off : SwitchOff) (s : State) :
    (pendSwitchOff off s).transport = s.transport ∧ (pendSwitchOff off s).protection = s.protection ∧
    (pendSwitchOff off s).outputs = s.outputs ∧ (pendSwitchOff off s).pins = s.pins ∧
    (pendSwitchOff off s).position = s.position ∧ (pendSwitchOff off s).reels = s.reels ∧
    (pendSwitchOff off s).gauge = s.gauge ∧ (pendSwitchOff off s).clock = s.clock ∧
    (pendSwitchOff off s).tuner = s.tuner ∧ (pendSwitchOff off s).presets = s.presets ∧
    (pendSwitchOff off s).receiver = s.receiver ∧ (pendSwitchOff off s).slots = s.slots ∧
    (pendSwitchOff off s).engine = s.engine ∧ (pendSwitchOff off s).settings = s.settings ∧
    (pendSwitchOff off s).store = s.store ∧ (pendSwitchOff off s).nv = s.nv ∧
    (pendSwitchOff off s).ports = s.ports ∧ (pendSwitchOff off s).pending = s.pending ∧
    (pendSwitchOff off s).draws = s.draws := by
  simp only [pendSwitchOff]
  simp

@[simp] theorem clearRaised_keeps (s : State) :
    (clearRaised s).transport = s.transport ∧ (clearRaised s).protection = s.protection ∧
    (clearRaised s).outputs = s.outputs ∧ (clearRaised s).pins = s.pins ∧
    (clearRaised s).position = s.position ∧ (clearRaised s).reels = s.reels ∧ (clearRaised s).gauge = s.gauge ∧
    (clearRaised s).clock = s.clock ∧ (clearRaised s).tuner = s.tuner ∧ (clearRaised s).presets = s.presets ∧
    (clearRaised s).receiver = s.receiver ∧ (clearRaised s).slots = s.slots ∧
    (clearRaised s).engine = s.engine ∧ (clearRaised s).settings = s.settings ∧
    (clearRaised s).store = s.store ∧ (clearRaised s).nv = s.nv ∧ (clearRaised s).ports = s.ports ∧
    (clearRaised s).pending = s.pending ∧ (clearRaised s).draws = s.draws := by
  simp only [clearRaised]
  simp

@[simp] theorem timerRaise_keeps (s : State) :
    (timerRaise s).transport = s.transport ∧ (timerRaise s).protection = s.protection ∧
    (timerRaise s).pins = s.pins ∧ (timerRaise s).position = s.position ∧ (timerRaise s).reels = s.reels ∧
    (timerRaise s).gauge = s.gauge ∧ (timerRaise s).presets = s.presets ∧ (timerRaise s).slots = s.slots ∧
    (timerRaise s).engine = s.engine ∧ (timerRaise s).settings = s.settings ∧ (timerRaise s).store = s.store ∧
    (timerRaise s).nv = s.nv ∧ (timerRaise s).pending = s.pending ∧ (timerRaise s).draws = s.draws := by
  simp only [timerRaise]
  (repeat' split) <;> simp

@[simp] theorem timerResume_keeps (s : State) :
    (timerResume s).transport = s.transport ∧ (timerResume s).protection = s.protection ∧
    (timerResume s).pins = s.pins ∧ (timerResume s).position = s.position ∧ (timerResume s).reels = s.reels ∧
    (timerResume s).gauge = s.gauge ∧ (timerResume s).presets = s.presets ∧ (timerResume s).slots = s.slots ∧
    (timerResume s).engine = s.engine ∧ (timerResume s).settings = s.settings ∧
    (timerResume s).store = s.store ∧ (timerResume s).nv = s.nv ∧ (timerResume s).pending = s.pending ∧
    (timerResume s).draws = s.draws := by
  simp only [timerResume]
  (repeat' split) <;> simp

@[simp] theorem timerReturn_keeps (s : State) :
    (timerReturn s).transport = s.transport ∧ (timerReturn s).protection = s.protection ∧
    (timerReturn s).outputs = s.outputs ∧ (timerReturn s).pins = s.pins ∧
    (timerReturn s).position = s.position ∧ (timerReturn s).reels = s.reels ∧ (timerReturn s).gauge = s.gauge ∧
    (timerReturn s).clock = s.clock ∧ (timerReturn s).tuner = s.tuner ∧ (timerReturn s).presets = s.presets ∧
    (timerReturn s).receiver = s.receiver ∧ (timerReturn s).slots = s.slots ∧
    (timerReturn s).engine = s.engine ∧ (timerReturn s).settings = s.settings ∧
    (timerReturn s).store = s.store ∧ (timerReturn s).nv = s.nv ∧ (timerReturn s).ports = s.ports ∧
    (timerReturn s).pending = s.pending ∧ (timerReturn s).draws = s.draws := by
  simp only [timerReturn]
  (repeat' split) <;> simp

@[simp] theorem lockStandby_keeps (s : State) :
    (lockStandby s).transport = s.transport ∧ (lockStandby s).protection = s.protection ∧
    (lockStandby s).outputs = s.outputs ∧ (lockStandby s).pins = s.pins ∧
    (lockStandby s).position = s.position ∧ (lockStandby s).reels = s.reels ∧ (lockStandby s).gauge = s.gauge ∧
    (lockStandby s).clock = s.clock ∧ (lockStandby s).tuner = s.tuner ∧ (lockStandby s).presets = s.presets ∧
    (lockStandby s).receiver = s.receiver ∧ (lockStandby s).slots = s.slots ∧
    (lockStandby s).engine = s.engine ∧ (lockStandby s).settings = s.settings ∧
    (lockStandby s).store = s.store ∧ (lockStandby s).nv = s.nv ∧ (lockStandby s).ports = s.ports ∧
    (lockStandby s).pending = s.pending ∧ (lockStandby s).draws = s.draws := by
  simp only [lockStandby]
  (repeat' split) <;> simp

@[simp] theorem driveOutputs_keeps (s : State) :
    (driveOutputs s).transport = s.transport ∧ (driveOutputs s).protection = s.protection ∧
    (driveOutputs s).pins = s.pins ∧ (driveOutputs s).position = s.position ∧
    (driveOutputs s).reels = s.reels ∧ (driveOutputs s).gauge = s.gauge ∧ (driveOutputs s).clock = s.clock ∧
    (driveOutputs s).tuner = s.tuner ∧ (driveOutputs s).presets = s.presets ∧
    (driveOutputs s).receiver = s.receiver ∧ (driveOutputs s).slots = s.slots ∧
    (driveOutputs s).engine = s.engine ∧ (driveOutputs s).power = s.power ∧
    (driveOutputs s).settings = s.settings ∧ (driveOutputs s).store = s.store ∧ (driveOutputs s).nv = s.nv ∧
    (driveOutputs s).ports = s.ports ∧ (driveOutputs s).pending = s.pending ∧ (driveOutputs s).draws = s.draws := by
  simp only [driveOutputs]
  simp

@[simp] theorem enter_keeps (new : TState) (s : State) :
    (enter new s).protection = s.protection ∧ (enter new s).pins = s.pins ∧ (enter new s).clock = s.clock ∧
    (enter new s).tuner = s.tuner ∧ (enter new s).presets = s.presets ∧ (enter new s).receiver = s.receiver ∧
    (enter new s).slots = s.slots ∧ (enter new s).engine = s.engine ∧ (enter new s).power = s.power ∧
    (enter new s).settings = s.settings ∧ (enter new s).store = s.store ∧ (enter new s).nv = s.nv ∧
    (enter new s).pending = s.pending ∧ (enter new s).draws = s.draws := by
  simp only [enter]
  (repeat' split) <;> simp

@[simp] theorem setIntent_keeps (i : Option Intent) (s : State) :
    (setIntent i s).protection = s.protection ∧ (setIntent i s).outputs = s.outputs ∧
    (setIntent i s).pins = s.pins ∧ (setIntent i s).position = s.position ∧ (setIntent i s).reels = s.reels ∧
    (setIntent i s).gauge = s.gauge ∧ (setIntent i s).clock = s.clock ∧ (setIntent i s).tuner = s.tuner ∧
    (setIntent i s).presets = s.presets ∧ (setIntent i s).receiver = s.receiver ∧
    (setIntent i s).slots = s.slots ∧ (setIntent i s).engine = s.engine ∧ (setIntent i s).power = s.power ∧
    (setIntent i s).settings = s.settings ∧ (setIntent i s).store = s.store ∧ (setIntent i s).nv = s.nv ∧
    (setIntent i s).ports = s.ports ∧ (setIntent i s).pending = s.pending ∧ (setIntent i s).draws = s.draws := by
  simp only [setIntent]
  simp

@[simp] theorem setHolder_keeps (h : Holder) (s : State) :
    (setHolder h s).protection = s.protection ∧ (setHolder h s).outputs = s.outputs ∧
    (setHolder h s).pins = s.pins ∧ (setHolder h s).position = s.position ∧ (setHolder h s).reels = s.reels ∧
    (setHolder h s).gauge = s.gauge ∧ (setHolder h s).clock = s.clock ∧ (setHolder h s).tuner = s.tuner ∧
    (setHolder h s).presets = s.presets ∧ (setHolder h s).receiver = s.receiver ∧
    (setHolder h s).slots = s.slots ∧ (setHolder h s).engine = s.engine ∧ (setHolder h s).power = s.power ∧
    (setHolder h s).settings = s.settings ∧ (setHolder h s).store = s.store ∧ (setHolder h s).nv = s.nv ∧
    (setHolder h s).ports = s.ports ∧ (setHolder h s).pending = s.pending ∧ (setHolder h s).draws = s.draws := by
  simp only [setHolder]
  simp

@[simp] theorem thread_keeps (i : Intent) (s : State) :
    (thread i s).protection = s.protection ∧ (thread i s).pins = s.pins ∧ (thread i s).clock = s.clock ∧
    (thread i s).tuner = s.tuner ∧ (thread i s).presets = s.presets ∧ (thread i s).receiver = s.receiver ∧
    (thread i s).slots = s.slots ∧ (thread i s).engine = s.engine ∧ (thread i s).power = s.power ∧
    (thread i s).settings = s.settings ∧ (thread i s).store = s.store ∧ (thread i s).nv = s.nv ∧
    (thread i s).pending = s.pending ∧ (thread i s).draws = s.draws := by
  simp only [thread]
  simp

@[simp] theorem releaseAtRest_keeps (s : State) :
    (releaseAtRest s).protection = s.protection ∧ (releaseAtRest s).outputs = s.outputs ∧
    (releaseAtRest s).pins = s.pins ∧ (releaseAtRest s).position = s.position ∧
    (releaseAtRest s).reels = s.reels ∧ (releaseAtRest s).gauge = s.gauge ∧ (releaseAtRest s).clock = s.clock ∧
    (releaseAtRest s).tuner = s.tuner ∧ (releaseAtRest s).presets = s.presets ∧
    (releaseAtRest s).receiver = s.receiver ∧ (releaseAtRest s).slots = s.slots ∧
    (releaseAtRest s).engine = s.engine ∧ (releaseAtRest s).power = s.power ∧
    (releaseAtRest s).settings = s.settings ∧ (releaseAtRest s).store = s.store ∧ (releaseAtRest s).nv = s.nv ∧
    (releaseAtRest s).ports = s.ports ∧ (releaseAtRest s).pending = s.pending ∧
    (releaseAtRest s).draws = s.draws := by
  simp only [releaseAtRest]
  (repeat' split) <;> simp

@[simp] theorem startRecord_keeps (src : RecordSource) (s : State) :
    (startRecord src s).protection = s.protection ∧ (startRecord src s).pins = s.pins ∧
    (startRecord src s).clock = s.clock ∧ (startRecord src s).tuner = s.tuner ∧
    (startRecord src s).presets = s.presets ∧ (startRecord src s).receiver = s.receiver ∧
    (startRecord src s).slots = s.slots ∧ (startRecord src s).engine = s.engine ∧
    (startRecord src s).power = s.power ∧ (startRecord src s).settings = s.settings ∧
    (startRecord src s).store = s.store ∧ (startRecord src s).nv = s.nv ∧
    (startRecord src s).pending = s.pending ∧ (startRecord src s).draws = s.draws := by
  simp only [startRecord]
  (repeat' split) <;> simp

@[simp] theorem resumeRecord_keeps (src : RecordSource) (s : State) :
    (resumeRecord src s).protection = s.protection ∧ (resumeRecord src s).pins = s.pins ∧
    (resumeRecord src s).clock = s.clock ∧ (resumeRecord src s).tuner = s.tuner ∧
    (resumeRecord src s).presets = s.presets ∧ (resumeRecord src s).receiver = s.receiver ∧
    (resumeRecord src s).slots = s.slots ∧ (resumeRecord src s).engine = s.engine ∧
    (resumeRecord src s).power = s.power ∧ (resumeRecord src s).settings = s.settings ∧
    (resumeRecord src s).store = s.store ∧ (resumeRecord src s).nv = s.nv ∧
    (resumeRecord src s).pending = s.pending ∧ (resumeRecord src s).draws = s.draws := by
  simp only [resumeRecord]
  (repeat' split) <;> simp

@[simp] theorem stopAndUnthread_keeps (i : Intent) (s : State) :
    (stopAndUnthread i s).protection = s.protection ∧ (stopAndUnthread i s).pins = s.pins ∧
    (stopAndUnthread i s).clock = s.clock ∧ (stopAndUnthread i s).tuner = s.tuner ∧
    (stopAndUnthread i s).presets = s.presets ∧ (stopAndUnthread i s).receiver = s.receiver ∧
    (stopAndUnthread i s).slots = s.slots ∧ (stopAndUnthread i s).engine = s.engine ∧
    (stopAndUnthread i s).power = s.power ∧ (stopAndUnthread i s).settings = s.settings ∧
    (stopAndUnthread i s).store = s.store ∧ (stopAndUnthread i s).nv = s.nv ∧
    (stopAndUnthread i s).pending = s.pending ∧ (stopAndUnthread i s).draws = s.draws := by
  simp only [stopAndUnthread]
  (repeat' split) <;> simp

@[simp] theorem act_keeps (a : Ask) (m : Move) (s : State) :
    (act a m s).protection = s.protection ∧ (act a m s).pins = s.pins ∧ (act a m s).clock = s.clock ∧
    (act a m s).tuner = s.tuner ∧ (act a m s).presets = s.presets ∧ (act a m s).receiver = s.receiver ∧
    (act a m s).slots = s.slots ∧ (act a m s).engine = s.engine ∧ (act a m s).power = s.power ∧
    (act a m s).settings = s.settings ∧ (act a m s).store = s.store ∧ (act a m s).nv = s.nv ∧
    (act a m s).pending = s.pending ∧ (act a m s).draws = s.draws := by
  simp only [act]
  (repeat' split) <;> simp

@[simp] theorem acceptFrom_keeps (l : Link) (r : Rank) (takesHolder : Bool) (s : State) :
    (acceptFrom l r takesHolder s).protection = s.protection ∧ (acceptFrom l r takesHolder s).pins = s.pins ∧
    (acceptFrom l r takesHolder s).reels = s.reels ∧ (acceptFrom l r takesHolder s).gauge = s.gauge ∧
    (acceptFrom l r takesHolder s).presets = s.presets ∧ (acceptFrom l r takesHolder s).slots = s.slots ∧
    (acceptFrom l r takesHolder s).engine = s.engine ∧ (acceptFrom l r takesHolder s).settings = s.settings ∧
    (acceptFrom l r takesHolder s).store = s.store ∧ (acceptFrom l r takesHolder s).nv = s.nv ∧
    (acceptFrom l r takesHolder s).pending = s.pending ∧ (acceptFrom l r takesHolder s).draws = s.draws := by
  simp only [acceptFrom]
  (repeat' split) <;> simp

@[simp] theorem requestTransport_keeps (l : Link) (r : Rank) (a : Ask) (s : State) :
    (requestTransport l r a s).2.protection = s.protection ∧ (requestTransport l r a s).2.pins = s.pins ∧
    (requestTransport l r a s).2.presets = s.presets ∧ (requestTransport l r a s).2.slots = s.slots ∧
    (requestTransport l r a s).2.engine = s.engine ∧ (requestTransport l r a s).2.settings = s.settings ∧
    (requestTransport l r a s).2.store = s.store ∧ (requestTransport l r a s).2.nv = s.nv ∧
    (requestTransport l r a s).2.pending = s.pending ∧ (requestTransport l r a s).2.draws = s.draws := by
  simp only [requestTransport]
  (repeat' split) <;> simp

@[simp] theorem carryOutThreaded_keeps (s : State) :
    (carryOutThreaded s).protection = s.protection ∧ (carryOutThreaded s).pins = s.pins ∧
    (carryOutThreaded s).clock = s.clock ∧ (carryOutThreaded s).tuner = s.tuner ∧
    (carryOutThreaded s).presets = s.presets ∧ (carryOutThreaded s).receiver = s.receiver ∧
    (carryOutThreaded s).slots = s.slots ∧ (carryOutThreaded s).engine = s.engine ∧
    (carryOutThreaded s).power = s.power ∧ (carryOutThreaded s).settings = s.settings ∧
    (carryOutThreaded s).store = s.store ∧ (carryOutThreaded s).nv = s.nv ∧
    (carryOutThreaded s).pending = s.pending ∧ (carryOutThreaded s).draws = s.draws := by
  simp only [carryOutThreaded]
  (repeat' split) <;> simp

@[simp] theorem carryOutParked_keeps (s : State) :
    (carryOutParked s).protection = s.protection ∧ (carryOutParked s).pins = s.pins ∧
    (carryOutParked s).clock = s.clock ∧ (carryOutParked s).tuner = s.tuner ∧
    (carryOutParked s).presets = s.presets ∧ (carryOutParked s).receiver = s.receiver ∧
    (carryOutParked s).slots = s.slots ∧ (carryOutParked s).engine = s.engine ∧
    (carryOutParked s).power = s.power ∧ (carryOutParked s).settings = s.settings ∧
    (carryOutParked s).store = s.store ∧ (carryOutParked s).nv = s.nv ∧
    (carryOutParked s).pending = s.pending ∧ (carryOutParked s).draws = s.draws := by
  simp only [carryOutParked]
  (repeat' split) <;> simp

@[simp] theorem latchKind_keeps (k : FaultKind) (s : State) :
    (latchKind k s).transport = s.transport ∧ (latchKind k s).outputs = s.outputs ∧
    (latchKind k s).pins = s.pins ∧ (latchKind k s).position = s.position ∧ (latchKind k s).reels = s.reels ∧
    (latchKind k s).gauge = s.gauge ∧ (latchKind k s).clock = s.clock ∧ (latchKind k s).tuner = s.tuner ∧
    (latchKind k s).presets = s.presets ∧ (latchKind k s).receiver = s.receiver ∧
    (latchKind k s).slots = s.slots ∧ (latchKind k s).engine = s.engine ∧ (latchKind k s).power = s.power ∧
    (latchKind k s).settings = s.settings ∧ (latchKind k s).store = s.store ∧ (latchKind k s).nv = s.nv ∧
    (latchKind k s).pending = s.pending ∧ (latchKind k s).draws = s.draws := by
  simp only [latchKind]
  simp

@[simp] theorem latchJam_keeps (k : FaultKind) (s : State) :
    (latchJam k s).pins = s.pins ∧ (latchJam k s).clock = s.clock ∧ (latchJam k s).tuner = s.tuner ∧
    (latchJam k s).presets = s.presets ∧ (latchJam k s).receiver = s.receiver ∧
    (latchJam k s).slots = s.slots ∧ (latchJam k s).engine = s.engine ∧ (latchJam k s).power = s.power ∧
    (latchJam k s).settings = s.settings ∧ (latchJam k s).store = s.store ∧ (latchJam k s).nv = s.nv ∧
    (latchJam k s).pending = s.pending ∧ (latchJam k s).draws = s.draws := by
  simp only [latchJam]
  simp

@[simp] theorem latchProtective_keeps (k : FaultKind) (s : State) :
    (latchProtective k s).pins = s.pins ∧ (latchProtective k s).clock = s.clock ∧
    (latchProtective k s).tuner = s.tuner ∧ (latchProtective k s).presets = s.presets ∧
    (latchProtective k s).receiver = s.receiver ∧ (latchProtective k s).slots = s.slots ∧
    (latchProtective k s).engine = s.engine ∧ (latchProtective k s).power = s.power ∧
    (latchProtective k s).settings = s.settings ∧ (latchProtective k s).store = s.store ∧
    (latchProtective k s).nv = s.nv ∧ (latchProtective k s).pending = s.pending ∧
    (latchProtective k s).draws = s.draws := by
  simp only [latchProtective]
  (repeat' split) <;> simp

@[simp] theorem transportTake_keeps (s : State) :
    (transportTake s).protection = s.protection ∧ (transportTake s).pins = s.pins ∧
    (transportTake s).clock = s.clock ∧ (transportTake s).tuner = s.tuner ∧
    (transportTake s).presets = s.presets ∧ (transportTake s).receiver = s.receiver ∧
    (transportTake s).slots = s.slots ∧ (transportTake s).engine = s.engine ∧
    (transportTake s).power = s.power ∧ (transportTake s).settings = s.settings ∧
    (transportTake s).store = s.store ∧ (transportTake s).nv = s.nv ∧ (transportTake s).pending = s.pending ∧
    (transportTake s).draws = s.draws := by
  simp only [transportTake]
  (repeat' split) <;> simp

theorem transportRecord_keeps (v : Speed) (mark : Bool) {s u : State} (h : transportRecord v mark s = some u) :
    u.protection = s.protection ∧
    u.pins = s.pins ∧
    u.clock = s.clock ∧
    u.tuner = s.tuner ∧
    u.presets = s.presets ∧
    u.receiver = s.receiver ∧
    u.slots = s.slots ∧
    u.engine = s.engine ∧
    u.power = s.power ∧
    u.settings = s.settings ∧
    u.store = s.store ∧
    u.nv = s.nv ∧
    u.pending = s.pending ∧
    u.draws = s.draws := by
  simp only [transportRecord] at h
  repeat' split at h
  all_goals first | (cases h; done) | (cases h; simp)

@[simp] theorem transportPause_keeps (s : State) :
    (transportPause s).protection = s.protection ∧ (transportPause s).pins = s.pins ∧
    (transportPause s).clock = s.clock ∧ (transportPause s).tuner = s.tuner ∧
    (transportPause s).presets = s.presets ∧ (transportPause s).receiver = s.receiver ∧
    (transportPause s).slots = s.slots ∧ (transportPause s).engine = s.engine ∧
    (transportPause s).power = s.power ∧ (transportPause s).settings = s.settings ∧
    (transportPause s).store = s.store ∧ (transportPause s).nv = s.nv ∧
    (transportPause s).pending = s.pending ∧ (transportPause s).draws = s.draws := by
  simp only [transportPause]
  (repeat' split) <;> simp

@[simp] theorem transportStop_keeps (s : State) :
    (transportStop s).protection = s.protection ∧ (transportStop s).pins = s.pins ∧
    (transportStop s).clock = s.clock ∧ (transportStop s).tuner = s.tuner ∧
    (transportStop s).presets = s.presets ∧ (transportStop s).receiver = s.receiver ∧
    (transportStop s).slots = s.slots ∧ (transportStop s).engine = s.engine ∧
    (transportStop s).power = s.power ∧ (transportStop s).settings = s.settings ∧
    (transportStop s).store = s.store ∧ (transportStop s).nv = s.nv ∧ (transportStop s).pending = s.pending ∧
    (transportStop s).draws = s.draws := by
  simp only [transportStop]
  (repeat' split) <;> simp

@[simp] theorem transportPark_keeps (s : State) :
    (transportPark s).protection = s.protection ∧ (transportPark s).pins = s.pins ∧
    (transportPark s).clock = s.clock ∧ (transportPark s).tuner = s.tuner ∧
    (transportPark s).presets = s.presets ∧ (transportPark s).receiver = s.receiver ∧
    (transportPark s).slots = s.slots ∧ (transportPark s).engine = s.engine ∧
    (transportPark s).power = s.power ∧ (transportPark s).settings = s.settings ∧
    (transportPark s).store = s.store ∧ (transportPark s).nv = s.nv ∧ (transportPark s).pending = s.pending ∧
    (transportPark s).draws = s.draws := by
  simp only [transportPark]
  (repeat' split) <;> simp

@[simp] theorem transportOff_keeps (s : State) :
    (transportOff s).protection = s.protection ∧ (transportOff s).pins = s.pins ∧
    (transportOff s).clock = s.clock ∧ (transportOff s).tuner = s.tuner ∧
    (transportOff s).presets = s.presets ∧ (transportOff s).receiver = s.receiver ∧
    (transportOff s).slots = s.slots ∧ (transportOff s).engine = s.engine ∧ (transportOff s).power = s.power ∧
    (transportOff s).settings = s.settings ∧ (transportOff s).store = s.store ∧ (transportOff s).nv = s.nv ∧
    (transportOff s).pending = s.pending ∧ (transportOff s).draws = s.draws := by
  simp only [transportOff]
  (repeat' split) <;> simp

@[simp] theorem transportRelease_keeps (s : State) :
    (transportRelease s).protection = s.protection ∧ (transportRelease s).outputs = s.outputs ∧
    (transportRelease s).pins = s.pins ∧ (transportRelease s).position = s.position ∧
    (transportRelease s).reels = s.reels ∧ (transportRelease s).gauge = s.gauge ∧
    (transportRelease s).clock = s.clock ∧ (transportRelease s).tuner = s.tuner ∧
    (transportRelease s).presets = s.presets ∧ (transportRelease s).receiver = s.receiver ∧
    (transportRelease s).slots = s.slots ∧ (transportRelease s).engine = s.engine ∧
    (transportRelease s).power = s.power ∧ (transportRelease s).settings = s.settings ∧
    (transportRelease s).store = s.store ∧ (transportRelease s).nv = s.nv ∧
    (transportRelease s).ports = s.ports ∧ (transportRelease s).pending = s.pending ∧
    (transportRelease s).draws = s.draws := by
  simp only [transportRelease]
  (repeat' split) <;> simp

@[simp] theorem recoverClass_keeps (x : Readings) (s : State) :
    (recoverClass x s).transport = s.transport ∧ (recoverClass x s).protection = s.protection ∧
    (recoverClass x s).outputs = s.outputs ∧ (recoverClass x s).pins = s.pins ∧
    (recoverClass x s).position = s.position ∧ (recoverClass x s).reels = s.reels ∧
    (recoverClass x s).clock = s.clock ∧ (recoverClass x s).tuner = s.tuner ∧
    (recoverClass x s).presets = s.presets ∧ (recoverClass x s).receiver = s.receiver ∧
    (recoverClass x s).slots = s.slots ∧ (recoverClass x s).engine = s.engine ∧
    (recoverClass x s).power = s.power ∧ (recoverClass x s).settings = s.settings ∧
    (recoverClass x s).store = s.store ∧ (recoverClass x s).nv = s.nv ∧
    (recoverClass x s).pending = s.pending ∧ (recoverClass x s).draws = s.draws := by
  simp only [recoverClass]
  (repeat' split) <;> simp

@[simp] theorem recover_keeps (x : Readings) (s : State) :
    (recover x s).protection = s.protection ∧ (recover x s).clock = s.clock ∧ (recover x s).tuner = s.tuner ∧
    (recover x s).presets = s.presets ∧ (recover x s).receiver = s.receiver ∧ (recover x s).slots = s.slots ∧
    (recover x s).engine = s.engine ∧ (recover x s).power = s.power ∧ (recover x s).settings = s.settings ∧
    (recover x s).store = s.store ∧ (recover x s).nv = s.nv ∧ (recover x s).pending = s.pending ∧
    (recover x s).draws = s.draws := by
  simp only [recover]
  (repeat' split) <;> simp

@[simp] theorem askStop_keeps (s : State) :
    (askStop s).protection = s.protection ∧ (askStop s).pins = s.pins ∧ (askStop s).clock = s.clock ∧
    (askStop s).tuner = s.tuner ∧ (askStop s).presets = s.presets ∧ (askStop s).receiver = s.receiver ∧
    (askStop s).slots = s.slots ∧ (askStop s).engine = s.engine ∧ (askStop s).power = s.power ∧
    (askStop s).settings = s.settings ∧ (askStop s).store = s.store ∧ (askStop s).nv = s.nv ∧
    (askStop s).pending = s.pending ∧ (askStop s).draws = s.draws := by
  simp only [askStop]
  (repeat' split) <;> simp

@[simp] theorem searchMove_keeps (t : TState) (s : State) :
    (searchMove t s).protection = s.protection ∧ (searchMove t s).pins = s.pins ∧
    (searchMove t s).clock = s.clock ∧ (searchMove t s).tuner = s.tuner ∧
    (searchMove t s).presets = s.presets ∧ (searchMove t s).receiver = s.receiver ∧
    (searchMove t s).slots = s.slots ∧ (searchMove t s).engine = s.engine ∧ (searchMove t s).power = s.power ∧
    (searchMove t s).settings = s.settings ∧ (searchMove t s).store = s.store ∧ (searchMove t s).nv = s.nv ∧
    (searchMove t s).pending = s.pending ∧ (searchMove t s).draws = s.draws := by
  simp only [searchMove]
  (repeat' split) <;> simp

@[simp] theorem endAction_keeps (play : Bool) (s : State) :
    (endAction play s).protection = s.protection ∧ (endAction play s).pins = s.pins ∧
    (endAction play s).clock = s.clock ∧ (endAction play s).tuner = s.tuner ∧
    (endAction play s).presets = s.presets ∧ (endAction play s).receiver = s.receiver ∧
    (endAction play s).slots = s.slots ∧ (endAction play s).engine = s.engine ∧
    (endAction play s).power = s.power ∧ (endAction play s).settings = s.settings ∧
    (endAction play s).store = s.store ∧ (endAction play s).nv = s.nv ∧
    (endAction play s).pending = s.pending ∧ (endAction play s).draws = s.draws := by
  simp only [endAction]
  (repeat' split) <;> simp

@[simp] theorem searchFound_keeps (r : Search) (s : State) :
    (searchFound r s).protection = s.protection ∧ (searchFound r s).pins = s.pins ∧
    (searchFound r s).clock = s.clock ∧ (searchFound r s).tuner = s.tuner ∧
    (searchFound r s).presets = s.presets ∧ (searchFound r s).receiver = s.receiver ∧
    (searchFound r s).slots = s.slots ∧ (searchFound r s).engine = s.engine ∧
    (searchFound r s).power = s.power ∧ (searchFound r s).settings = s.settings ∧
    (searchFound r s).store = s.store ∧ (searchFound r s).nv = s.nv ∧ (searchFound r s).pending = s.pending ∧
    (searchFound r s).draws = s.draws := by
  simp only [searchFound]
  simp

@[simp] theorem setSearch_keeps (r : Option Search) (s : State) :
    (setSearch r s).transport = s.transport ∧ (setSearch r s).protection = s.protection ∧
    (setSearch r s).outputs = s.outputs ∧ (setSearch r s).pins = s.pins ∧ (setSearch r s).reels = s.reels ∧
    (setSearch r s).gauge = s.gauge ∧ (setSearch r s).clock = s.clock ∧ (setSearch r s).tuner = s.tuner ∧
    (setSearch r s).presets = s.presets ∧ (setSearch r s).receiver = s.receiver ∧
    (setSearch r s).slots = s.slots ∧ (setSearch r s).engine = s.engine ∧ (setSearch r s).power = s.power ∧
    (setSearch r s).settings = s.settings ∧ (setSearch r s).store = s.store ∧ (setSearch r s).nv = s.nv ∧
    (setSearch r s).ports = s.ports ∧ (setSearch r s).pending = s.pending ∧ (setSearch r s).draws = s.draws := by
  simp only [setSearch]
  simp

@[simp] theorem beginSearch_keeps (r : Search) (s : State) :
    (beginSearch r s).protection = s.protection ∧ (beginSearch r s).pins = s.pins ∧
    (beginSearch r s).clock = s.clock ∧ (beginSearch r s).tuner = s.tuner ∧
    (beginSearch r s).presets = s.presets ∧ (beginSearch r s).receiver = s.receiver ∧
    (beginSearch r s).slots = s.slots ∧ (beginSearch r s).engine = s.engine ∧
    (beginSearch r s).power = s.power ∧ (beginSearch r s).settings = s.settings ∧
    (beginSearch r s).store = s.store ∧ (beginSearch r s).nv = s.nv ∧ (beginSearch r s).pending = s.pending ∧
    (beginSearch r s).draws = s.draws := by
  simp only [beginSearch]
  (repeat' split) <;> simp

@[simp] theorem searchThreaded_keeps (s : State) :
    (searchThreaded s).protection = s.protection ∧ (searchThreaded s).pins = s.pins ∧
    (searchThreaded s).clock = s.clock ∧ (searchThreaded s).tuner = s.tuner ∧
    (searchThreaded s).presets = s.presets ∧ (searchThreaded s).receiver = s.receiver ∧
    (searchThreaded s).slots = s.slots ∧ (searchThreaded s).engine = s.engine ∧
    (searchThreaded s).power = s.power ∧ (searchThreaded s).settings = s.settings ∧
    (searchThreaded s).store = s.store ∧ (searchThreaded s).nv = s.nv ∧
    (searchThreaded s).pending = s.pending ∧ (searchThreaded s).draws = s.draws := by
  simp only [searchThreaded]
  (repeat' split) <;> simp

@[simp] theorem requestSearch_keeps (l : Link) (rank : Rank) (r : Option Search) (s : State) :
    (requestSearch l rank r s).2.protection = s.protection ∧ (requestSearch l rank r s).2.pins = s.pins ∧
    (requestSearch l rank r s).2.presets = s.presets ∧ (requestSearch l rank r s).2.slots = s.slots ∧
    (requestSearch l rank r s).2.engine = s.engine ∧ (requestSearch l rank r s).2.settings = s.settings ∧
    (requestSearch l rank r s).2.store = s.store ∧ (requestSearch l rank r s).2.nv = s.nv ∧
    (requestSearch l rank r s).2.pending = s.pending ∧ (requestSearch l rank r s).2.draws = s.draws := by
  simp only [requestSearch]
  (repeat' split) <;> simp

@[simp] theorem judgeSearchTarget_keeps (s : State) :
    (judgeSearchTarget s).protection = s.protection ∧ (judgeSearchTarget s).pins = s.pins ∧
    (judgeSearchTarget s).clock = s.clock ∧ (judgeSearchTarget s).tuner = s.tuner ∧
    (judgeSearchTarget s).presets = s.presets ∧ (judgeSearchTarget s).receiver = s.receiver ∧
    (judgeSearchTarget s).slots = s.slots ∧ (judgeSearchTarget s).engine = s.engine ∧
    (judgeSearchTarget s).power = s.power ∧ (judgeSearchTarget s).settings = s.settings ∧
    (judgeSearchTarget s).store = s.store ∧ (judgeSearchTarget s).nv = s.nv ∧
    (judgeSearchTarget s).pending = s.pending ∧ (judgeSearchTarget s).draws = s.draws := by
  simp only [judgeSearchTarget]
  (repeat' split) <;> simp

@[simp] theorem countMark_keeps (s : State) :
    (countMark s).protection = s.protection ∧ (countMark s).pins = s.pins ∧ (countMark s).clock = s.clock ∧
    (countMark s).tuner = s.tuner ∧ (countMark s).presets = s.presets ∧ (countMark s).receiver = s.receiver ∧
    (countMark s).slots = s.slots ∧ (countMark s).engine = s.engine ∧ (countMark s).power = s.power ∧
    (countMark s).settings = s.settings ∧ (countMark s).store = s.store ∧ (countMark s).nv = s.nv ∧
    (countMark s).pending = s.pending ∧ (countMark s).draws = s.draws := by
  simp only [countMark]
  (repeat' split) <;> simp

@[simp] theorem detectMark_keeps (mark : Bool) (s : State) :
    (detectMark mark s).protection = s.protection ∧ (detectMark mark s).pins = s.pins ∧
    (detectMark mark s).clock = s.clock ∧ (detectMark mark s).tuner = s.tuner ∧
    (detectMark mark s).presets = s.presets ∧ (detectMark mark s).receiver = s.receiver ∧
    (detectMark mark s).slots = s.slots ∧ (detectMark mark s).engine = s.engine ∧
    (detectMark mark s).power = s.power ∧ (detectMark mark s).settings = s.settings ∧
    (detectMark mark s).store = s.store ∧ (detectMark mark s).nv = s.nv ∧
    (detectMark mark s).pending = s.pending ∧ (detectMark mark s).draws = s.draws := by
  simp only [detectMark]
  (repeat' split) <;> simp

@[simp] theorem writeMark_keeps (s : State) :
    (writeMark s).transport = s.transport ∧ (writeMark s).protection = s.protection ∧
    (writeMark s).pins = s.pins ∧ (writeMark s).reels = s.reels ∧ (writeMark s).gauge = s.gauge ∧
    (writeMark s).clock = s.clock ∧ (writeMark s).tuner = s.tuner ∧ (writeMark s).presets = s.presets ∧
    (writeMark s).receiver = s.receiver ∧ (writeMark s).slots = s.slots ∧ (writeMark s).engine = s.engine ∧
    (writeMark s).power = s.power ∧ (writeMark s).settings = s.settings ∧ (writeMark s).store = s.store ∧
    (writeMark s).nv = s.nv ∧ (writeMark s).ports = s.ports ∧ (writeMark s).pending = s.pending ∧
    (writeMark s).draws = s.draws := by
  simp only [writeMark]
  (repeat' split) <;> simp

@[simp] theorem memoryStops_keeps (s : State) :
    (memoryStops s).protection = s.protection ∧ (memoryStops s).pins = s.pins ∧
    (memoryStops s).clock = s.clock ∧ (memoryStops s).tuner = s.tuner ∧ (memoryStops s).presets = s.presets ∧
    (memoryStops s).receiver = s.receiver ∧ (memoryStops s).slots = s.slots ∧
    (memoryStops s).engine = s.engine ∧ (memoryStops s).power = s.power ∧
    (memoryStops s).settings = s.settings ∧ (memoryStops s).store = s.store ∧ (memoryStops s).nv = s.nv ∧
    (memoryStops s).pending = s.pending ∧ (memoryStops s).draws = s.draws := by
  simp only [memoryStops]
  simp

@[simp] theorem controlTrackPulse_keeps (mark : Bool) (s : State) :
    (controlTrackPulse mark s).protection = s.protection ∧ (controlTrackPulse mark s).pins = s.pins ∧
    (controlTrackPulse mark s).clock = s.clock ∧ (controlTrackPulse mark s).tuner = s.tuner ∧
    (controlTrackPulse mark s).presets = s.presets ∧ (controlTrackPulse mark s).receiver = s.receiver ∧
    (controlTrackPulse mark s).slots = s.slots ∧ (controlTrackPulse mark s).engine = s.engine ∧
    (controlTrackPulse mark s).power = s.power ∧ (controlTrackPulse mark s).settings = s.settings ∧
    (controlTrackPulse mark s).store = s.store ∧ (controlTrackPulse mark s).nv = s.nv ∧
    (controlTrackPulse mark s).pending = s.pending ∧ (controlTrackPulse mark s).draws = s.draws := by
  simp only [controlTrackPulse]
  (repeat' split) <;> simp

@[simp] theorem resetCounter_keeps (s : State) :
    (resetCounter s).protection = s.protection ∧ (resetCounter s).pins = s.pins ∧
    (resetCounter s).clock = s.clock ∧ (resetCounter s).tuner = s.tuner ∧
    (resetCounter s).presets = s.presets ∧ (resetCounter s).receiver = s.receiver ∧
    (resetCounter s).slots = s.slots ∧ (resetCounter s).engine = s.engine ∧ (resetCounter s).power = s.power ∧
    (resetCounter s).settings = s.settings ∧ (resetCounter s).store = s.store ∧ (resetCounter s).nv = s.nv ∧
    (resetCounter s).pending = s.pending ∧ (resetCounter s).draws = s.draws := by
  simp only [resetCounter]
  (repeat' split) <;> simp

@[simp] theorem standardChanged_keeps (s : State) :
    (standardChanged s).protection = s.protection ∧ (standardChanged s).pins = s.pins ∧
    (standardChanged s).clock = s.clock ∧ (standardChanged s).tuner = s.tuner ∧
    (standardChanged s).presets = s.presets ∧ (standardChanged s).receiver = s.receiver ∧
    (standardChanged s).slots = s.slots ∧ (standardChanged s).engine = s.engine ∧
    (standardChanged s).power = s.power ∧ (standardChanged s).settings = s.settings ∧
    (standardChanged s).store = s.store ∧ (standardChanged s).nv = s.nv ∧
    (standardChanged s).pending = s.pending ∧ (standardChanged s).draws = s.draws := by
  simp only [standardChanged]
  (repeat' split) <;> simp

@[simp] theorem rebuild_keeps (s : State) :
    (rebuild s).transport = s.transport ∧ (rebuild s).protection = s.protection ∧
    (rebuild s).outputs = s.outputs ∧ (rebuild s).pins = s.pins ∧ (rebuild s).position = s.position ∧
    (rebuild s).reels = s.reels ∧ (rebuild s).gauge = s.gauge ∧ (rebuild s).clock = s.clock ∧
    (rebuild s).tuner = s.tuner ∧ (rebuild s).presets = s.presets ∧ (rebuild s).receiver = s.receiver ∧
    (rebuild s).slots = s.slots ∧ (rebuild s).power = s.power ∧ (rebuild s).settings = s.settings ∧
    (rebuild s).store = s.store ∧ (rebuild s).nv = s.nv ∧ (rebuild s).ports = s.ports ∧
    (rebuild s).pending = s.pending ∧ (rebuild s).draws = s.draws := by
  simp only [rebuild]
  simp

@[simp] theorem computeFlags_keeps (s : State) :
    (computeFlags s).transport = s.transport ∧ (computeFlags s).protection = s.protection ∧
    (computeFlags s).outputs = s.outputs ∧ (computeFlags s).pins = s.pins ∧
    (computeFlags s).position = s.position ∧ (computeFlags s).reels = s.reels ∧
    (computeFlags s).gauge = s.gauge ∧ (computeFlags s).clock = s.clock ∧ (computeFlags s).tuner = s.tuner ∧
    (computeFlags s).presets = s.presets ∧ (computeFlags s).receiver = s.receiver ∧
    (computeFlags s).engine = s.engine ∧ (computeFlags s).power = s.power ∧
    (computeFlags s).settings = s.settings ∧ (computeFlags s).store = s.store ∧ (computeFlags s).nv = s.nv ∧
    (computeFlags s).pending = s.pending ∧ (computeFlags s).draws = s.draws := by
  simp only [computeFlags]
  simp

@[simp] theorem writeSlot_keeps (i : Nat) (x : Slot) (s : State) :
    (writeSlot i x s).transport = s.transport ∧ (writeSlot i x s).protection = s.protection ∧
    (writeSlot i x s).outputs = s.outputs ∧ (writeSlot i x s).pins = s.pins ∧
    (writeSlot i x s).position = s.position ∧ (writeSlot i x s).reels = s.reels ∧
    (writeSlot i x s).gauge = s.gauge ∧ (writeSlot i x s).clock = s.clock ∧ (writeSlot i x s).tuner = s.tuner ∧
    (writeSlot i x s).presets = s.presets ∧ (writeSlot i x s).receiver = s.receiver ∧
    (writeSlot i x s).power = s.power ∧ (writeSlot i x s).settings = s.settings ∧ (writeSlot i x s).nv = s.nv ∧
    (writeSlot i x s).pending = s.pending ∧ (writeSlot i x s).draws = s.draws := by
  simp only [writeSlot]
  (repeat' split) <;> simp

@[simp] theorem serveSlot_keeps (i day : Nat) (s : State) :
    (serveSlot i day s).transport = s.transport ∧ (serveSlot i day s).protection = s.protection ∧
    (serveSlot i day s).outputs = s.outputs ∧ (serveSlot i day s).pins = s.pins ∧
    (serveSlot i day s).position = s.position ∧ (serveSlot i day s).reels = s.reels ∧
    (serveSlot i day s).gauge = s.gauge ∧ (serveSlot i day s).clock = s.clock ∧
    (serveSlot i day s).tuner = s.tuner ∧ (serveSlot i day s).presets = s.presets ∧
    (serveSlot i day s).receiver = s.receiver ∧ (serveSlot i day s).power = s.power ∧
    (serveSlot i day s).settings = s.settings ∧ (serveSlot i day s).nv = s.nv ∧
    (serveSlot i day s).pending = s.pending ∧ (serveSlot i day s).draws = s.draws := by
  simp only [serveSlot]
  (repeat' split) <;> simp

@[simp] theorem judgeSlot_keeps (i : Nat) (o : OutcomeRecord) (s : State) :
    (judgeSlot i o s).transport = s.transport ∧ (judgeSlot i o s).protection = s.protection ∧
    (judgeSlot i o s).outputs = s.outputs ∧ (judgeSlot i o s).pins = s.pins ∧
    (judgeSlot i o s).position = s.position ∧ (judgeSlot i o s).reels = s.reels ∧
    (judgeSlot i o s).gauge = s.gauge ∧ (judgeSlot i o s).clock = s.clock ∧ (judgeSlot i o s).tuner = s.tuner ∧
    (judgeSlot i o s).presets = s.presets ∧ (judgeSlot i o s).receiver = s.receiver ∧
    (judgeSlot i o s).power = s.power ∧ (judgeSlot i o s).settings = s.settings ∧ (judgeSlot i o s).nv = s.nv ∧
    (judgeSlot i o s).pending = s.pending ∧ (judgeSlot i o s).draws = s.draws := by
  simp only [judgeSlot]
  (repeat' split) <;> simp

@[simp] theorem judgeMissed_keeps (why : MissedReason) (i : Nat) (s : State) :
    (judgeMissed why i s).transport = s.transport ∧ (judgeMissed why i s).protection = s.protection ∧
    (judgeMissed why i s).outputs = s.outputs ∧ (judgeMissed why i s).pins = s.pins ∧
    (judgeMissed why i s).position = s.position ∧ (judgeMissed why i s).reels = s.reels ∧
    (judgeMissed why i s).gauge = s.gauge ∧ (judgeMissed why i s).clock = s.clock ∧
    (judgeMissed why i s).tuner = s.tuner ∧ (judgeMissed why i s).presets = s.presets ∧
    (judgeMissed why i s).receiver = s.receiver ∧ (judgeMissed why i s).power = s.power ∧
    (judgeMissed why i s).settings = s.settings ∧ (judgeMissed why i s).nv = s.nv ∧
    (judgeMissed why i s).pending = s.pending ∧ (judgeMissed why i s).draws = s.draws := by
  simp only [judgeMissed]
  (repeat' split) <;> simp

@[simp] theorem judgeMissedAll_keeps (why : MissedReason) (slots : List Nat) (s : State) :
    (judgeMissedAll why slots s).transport = s.transport ∧
    (judgeMissedAll why slots s).protection = s.protection ∧ (judgeMissedAll why slots s).outputs = s.outputs ∧
    (judgeMissedAll why slots s).pins = s.pins ∧ (judgeMissedAll why slots s).position = s.position ∧
    (judgeMissedAll why slots s).reels = s.reels ∧ (judgeMissedAll why slots s).gauge = s.gauge ∧
    (judgeMissedAll why slots s).clock = s.clock ∧ (judgeMissedAll why slots s).tuner = s.tuner ∧
    (judgeMissedAll why slots s).presets = s.presets ∧ (judgeMissedAll why slots s).receiver = s.receiver ∧
    (judgeMissedAll why slots s).power = s.power ∧ (judgeMissedAll why slots s).settings = s.settings ∧
    (judgeMissedAll why slots s).nv = s.nv ∧ (judgeMissedAll why slots s).pending = s.pending ∧
    (judgeMissedAll why slots s).draws = s.draws := by
  induction slots generalizing s with
  | nil => simp [judgeMissedAll]
  | cons i is ih => simp [judgeMissedAll, ih]

@[simp] theorem judgePassed_keeps (why : MissedReason) (s : State) :
    (judgePassed why s).transport = s.transport ∧ (judgePassed why s).protection = s.protection ∧
    (judgePassed why s).outputs = s.outputs ∧ (judgePassed why s).pins = s.pins ∧
    (judgePassed why s).position = s.position ∧ (judgePassed why s).reels = s.reels ∧
    (judgePassed why s).gauge = s.gauge ∧ (judgePassed why s).clock = s.clock ∧
    (judgePassed why s).tuner = s.tuner ∧ (judgePassed why s).presets = s.presets ∧
    (judgePassed why s).receiver = s.receiver ∧ (judgePassed why s).power = s.power ∧
    (judgePassed why s).settings = s.settings ∧ (judgePassed why s).nv = s.nv ∧
    (judgePassed why s).pending = s.pending ∧ (judgePassed why s).draws = s.draws := by
  simp only [judgePassed]
  simp

end Sys2Proof.Machine
end

