-- ==== Sys2Proof/Laws/EngineFrames.lean ====
section
/-!
SUPPORT. What each operation of the Timer Engine, the clock and the labels leaves as it was: one lemma for each, every untouched record an equation.
-/

namespace Sys2Proof.Machine

@[simp] theorem setCurrent_keeps (o : Option Occurrence) (s : State) :
    (setCurrent o s).transport = s.transport ∧ (setCurrent o s).protection = s.protection ∧
    (setCurrent o s).outputs = s.outputs ∧ (setCurrent o s).pins = s.pins ∧
    (setCurrent o s).position = s.position ∧ (setCurrent o s).reels = s.reels ∧
    (setCurrent o s).gauge = s.gauge ∧ (setCurrent o s).clock = s.clock ∧ (setCurrent o s).tuner = s.tuner ∧
    (setCurrent o s).presets = s.presets ∧ (setCurrent o s).receiver = s.receiver ∧
    (setCurrent o s).slots = s.slots ∧ (setCurrent o s).power = s.power ∧
    (setCurrent o s).settings = s.settings ∧ (setCurrent o s).store = s.store ∧ (setCurrent o s).nv = s.nv ∧
    (setCurrent o s).pending = s.pending ∧ (setCurrent o s).draws = s.draws := by
  simp only [setCurrent]
  simp

@[simp] theorem updateOccurrence_keeps (f : Occurrence → Occurrence) (s : State) :
    (updateOccurrence f s).transport = s.transport ∧ (updateOccurrence f s).protection = s.protection ∧
    (updateOccurrence f s).outputs = s.outputs ∧ (updateOccurrence f s).pins = s.pins ∧
    (updateOccurrence f s).position = s.position ∧ (updateOccurrence f s).reels = s.reels ∧
    (updateOccurrence f s).gauge = s.gauge ∧ (updateOccurrence f s).clock = s.clock ∧
    (updateOccurrence f s).tuner = s.tuner ∧ (updateOccurrence f s).presets = s.presets ∧
    (updateOccurrence f s).receiver = s.receiver ∧ (updateOccurrence f s).slots = s.slots ∧
    (updateOccurrence f s).power = s.power ∧ (updateOccurrence f s).settings = s.settings ∧
    (updateOccurrence f s).store = s.store ∧ (updateOccurrence f s).nv = s.nv ∧
    (updateOccurrence f s).pending = s.pending ∧ (updateOccurrence f s).draws = s.draws := by
  simp only [updateOccurrence]
  (repeat' split) <;> simp

@[simp] theorem writeOutcome_keeps (o : Occurrence) (v : Verdict) (s : State) :
    (writeOutcome o v s).transport = s.transport ∧ (writeOutcome o v s).protection = s.protection ∧
    (writeOutcome o v s).outputs = s.outputs ∧ (writeOutcome o v s).pins = s.pins ∧
    (writeOutcome o v s).position = s.position ∧ (writeOutcome o v s).reels = s.reels ∧
    (writeOutcome o v s).gauge = s.gauge ∧ (writeOutcome o v s).clock = s.clock ∧
    (writeOutcome o v s).tuner = s.tuner ∧ (writeOutcome o v s).presets = s.presets ∧
    (writeOutcome o v s).receiver = s.receiver ∧ (writeOutcome o v s).power = s.power ∧
    (writeOutcome o v s).settings = s.settings ∧ (writeOutcome o v s).nv = s.nv ∧
    (writeOutcome o v s).pending = s.pending ∧ (writeOutcome o v s).draws = s.draws := by
  simp only [writeOutcome]
  (repeat' split) <;> simp

@[simp] theorem endOccurrence_keeps (v : Verdict) (s : State) :
    (endOccurrence v s).protection = s.protection ∧ (endOccurrence v s).pins = s.pins ∧
    (endOccurrence v s).clock = s.clock ∧ (endOccurrence v s).tuner = s.tuner ∧
    (endOccurrence v s).presets = s.presets ∧ (endOccurrence v s).receiver = s.receiver ∧
    (endOccurrence v s).power = s.power ∧ (endOccurrence v s).settings = s.settings ∧
    (endOccurrence v s).nv = s.nv ∧ (endOccurrence v s).pending = s.pending ∧
    (endOccurrence v s).draws = s.draws := by
  simp only [endOccurrence]
  (repeat' split) <;> simp

@[simp] theorem sendRecord_keeps (v : Speed) (mark : Bool) (f : Occurrence → Occurrence) (s : State) :
    (sendRecord v mark f s).protection = s.protection ∧ (sendRecord v mark f s).pins = s.pins ∧
    (sendRecord v mark f s).clock = s.clock ∧ (sendRecord v mark f s).tuner = s.tuner ∧
    (sendRecord v mark f s).presets = s.presets ∧ (sendRecord v mark f s).receiver = s.receiver ∧
    (sendRecord v mark f s).slots = s.slots ∧ (sendRecord v mark f s).power = s.power ∧
    (sendRecord v mark f s).settings = s.settings ∧ (sendRecord v mark f s).store = s.store ∧
    (sendRecord v mark f s).nv = s.nv ∧ (sendRecord v mark f s).pending = s.pending ∧
    (sendRecord v mark f s).draws = s.draws := by
  simp only [sendRecord]
  split
  · next h => have := transportRecord_keeps _ _ h; simp [this]
  · simp

@[simp] theorem sendStart_keeps (handover : Bool) (o : Occurrence) (v : Speed) (s : State) :
    (sendStart handover o v s).protection = s.protection ∧ (sendStart handover o v s).pins = s.pins ∧
    (sendStart handover o v s).presets = s.presets ∧ (sendStart handover o v s).slots = s.slots ∧
    (sendStart handover o v s).power = s.power ∧ (sendStart handover o v s).settings = s.settings ∧
    (sendStart handover o v s).store = s.store ∧ (sendStart handover o v s).nv = s.nv ∧
    (sendStart handover o v s).pending = s.pending ∧ (sendStart handover o v s).draws = s.draws := by
  simp only [sendStart]
  (repeat' split) <;> simp

@[simp] theorem judgeStart_keeps (handover : Bool) (o : Occurrence) (s : State) :
    (judgeStart handover o s).protection = s.protection ∧ (judgeStart handover o s).pins = s.pins ∧
    (judgeStart handover o s).presets = s.presets ∧ (judgeStart handover o s).power = s.power ∧
    (judgeStart handover o s).settings = s.settings ∧ (judgeStart handover o s).nv = s.nv ∧
    (judgeStart handover o s).pending = s.pending ∧ (judgeStart handover o s).draws = s.draws := by
  simp only [judgeStart]
  (repeat' split) <;> simp

@[simp] theorem startReached_keeps (o : Occurrence) (s : State) :
    (startReached o s).transport = s.transport ∧ (startReached o s).protection = s.protection ∧
    (startReached o s).outputs = s.outputs ∧ (startReached o s).pins = s.pins ∧
    (startReached o s).position = s.position ∧ (startReached o s).reels = s.reels ∧
    (startReached o s).gauge = s.gauge ∧ (startReached o s).clock = s.clock ∧
    (startReached o s).tuner = s.tuner ∧ (startReached o s).presets = s.presets ∧
    (startReached o s).receiver = s.receiver ∧ (startReached o s).slots = s.slots ∧
    (startReached o s).power = s.power ∧ (startReached o s).settings = s.settings ∧
    (startReached o s).store = s.store ∧ (startReached o s).nv = s.nv ∧
    (startReached o s).pending = s.pending ∧ (startReached o s).draws = s.draws := by
  simp only [startReached]
  (repeat' split) <;> simp

@[simp] theorem recordingBegins_keeps (o : Occurrence) (s : State) :
    (recordingBegins o s).transport = s.transport ∧ (recordingBegins o s).protection = s.protection ∧
    (recordingBegins o s).outputs = s.outputs ∧ (recordingBegins o s).pins = s.pins ∧
    (recordingBegins o s).position = s.position ∧ (recordingBegins o s).reels = s.reels ∧
    (recordingBegins o s).gauge = s.gauge ∧ (recordingBegins o s).clock = s.clock ∧
    (recordingBegins o s).tuner = s.tuner ∧ (recordingBegins o s).presets = s.presets ∧
    (recordingBegins o s).receiver = s.receiver ∧ (recordingBegins o s).slots = s.slots ∧
    (recordingBegins o s).power = s.power ∧ (recordingBegins o s).settings = s.settings ∧
    (recordingBegins o s).store = s.store ∧ (recordingBegins o s).nv = s.nv ∧
    (recordingBegins o s).pending = s.pending ∧ (recordingBegins o s).draws = s.draws := by
  simp only [recordingBegins]
  (repeat' split) <;> simp

@[simp] theorem recordAgain_keeps (s : State) :
    (recordAgain s).protection = s.protection ∧ (recordAgain s).pins = s.pins ∧
    (recordAgain s).clock = s.clock ∧ (recordAgain s).tuner = s.tuner ∧ (recordAgain s).presets = s.presets ∧
    (recordAgain s).receiver = s.receiver ∧ (recordAgain s).slots = s.slots ∧ (recordAgain s).power = s.power ∧
    (recordAgain s).settings = s.settings ∧ (recordAgain s).store = s.store ∧ (recordAgain s).nv = s.nv ∧
    (recordAgain s).pending = s.pending ∧ (recordAgain s).draws = s.draws := by
  simp only [recordAgain]
  split
  · simp
  · cases h : transportRecord _ false _ with
    | none => simp
    | some u => have := transportRecord_keeps _ _ h; simp [this]

@[simp] theorem tryTakes_keeps (o : Occurrence) (s : State) :
    (tryTakes o s).protection = s.protection ∧ (tryTakes o s).pins = s.pins ∧
    (tryTakes o s).presets = s.presets ∧ (tryTakes o s).slots = s.slots ∧ (tryTakes o s).power = s.power ∧
    (tryTakes o s).settings = s.settings ∧ (tryTakes o s).store = s.store ∧ (tryTakes o s).nv = s.nv ∧
    (tryTakes o s).pending = s.pending ∧ (tryTakes o s).draws = s.draws := by
  simp only [tryTakes]
  (repeat' split) <;> simp

@[simp] theorem makeCurrent_keeps (e : DueEntry) (carried : Bool) (s : State) :
    (makeCurrent e carried s).transport = s.transport ∧ (makeCurrent e carried s).protection = s.protection ∧
    (makeCurrent e carried s).pins = s.pins ∧ (makeCurrent e carried s).position = s.position ∧
    (makeCurrent e carried s).reels = s.reels ∧ (makeCurrent e carried s).gauge = s.gauge ∧
    (makeCurrent e carried s).presets = s.presets ∧ (makeCurrent e carried s).settings = s.settings ∧
    (makeCurrent e carried s).nv = s.nv ∧ (makeCurrent e carried s).pending = s.pending ∧
    (makeCurrent e carried s).draws = s.draws := by
  simp only [makeCurrent]
  simp

@[simp] theorem comeDue_keeps (s : State) :
    (comeDue s).protection = s.protection ∧ (comeDue s).pins = s.pins ∧ (comeDue s).presets = s.presets ∧
    (comeDue s).settings = s.settings ∧ (comeDue s).nv = s.nv ∧ (comeDue s).pending = s.pending ∧
    (comeDue s).draws = s.draws := by
  simp only [comeDue]
  (repeat' split) <;> simp

@[simp] theorem handOver_keeps (o : Occurrence) (e : DueEntry) (s : State) :
    (handOver o e s).protection = s.protection ∧ (handOver o e s).pins = s.pins ∧
    (handOver o e s).presets = s.presets ∧ (handOver o e s).settings = s.settings ∧
    (handOver o e s).nv = s.nv ∧ (handOver o e s).pending = s.pending ∧ (handOver o e s).draws = s.draws := by
  simp only [handOver]
  simp

@[simp] theorem scheduledStop_keeps (o : Occurrence) (s : State) :
    (scheduledStop o s).protection = s.protection ∧ (scheduledStop o s).pins = s.pins ∧
    (scheduledStop o s).presets = s.presets ∧ (scheduledStop o s).settings = s.settings ∧
    (scheduledStop o s).nv = s.nv ∧ (scheduledStop o s).pending = s.pending ∧
    (scheduledStop o s).draws = s.draws := by
  simp only [scheduledStop]
  (repeat' split) <;> simp

@[simp] theorem clockReached_keeps (step : Bool) (s : State) :
    (clockReached step s).protection = s.protection ∧ (clockReached step s).pins = s.pins ∧
    (clockReached step s).presets = s.presets ∧ (clockReached step s).settings = s.settings ∧
    (clockReached step s).nv = s.nv ∧ (clockReached step s).pending = s.pending ∧
    (clockReached step s).draws = s.draws := by
  simp only [clockReached]
  (repeat' split) <;> simp

@[simp] theorem newStop_keeps (stop : Nat) (s : State) :
    (newStop stop s).protection = s.protection ∧ (newStop stop s).pins = s.pins ∧
    (newStop stop s).presets = s.presets ∧ (newStop stop s).settings = s.settings ∧
    (newStop stop s).nv = s.nv ∧ (newStop stop s).pending = s.pending ∧ (newStop stop s).draws = s.draws := by
  simp only [newStop]
  (repeat' split) <;> simp

@[simp] theorem minuteBoundary_keeps (s : State) :
    (minuteBoundary s).protection = s.protection ∧ (minuteBoundary s).pins = s.pins ∧
    (minuteBoundary s).presets = s.presets ∧ (minuteBoundary s).settings = s.settings ∧
    (minuteBoundary s).nv = s.nv ∧ (minuteBoundary s).pending = s.pending ∧ (minuteBoundary s).draws = s.draws := by
  simp only [minuteBoundary]
  (repeat' split) <;> simp

/-- What a backward step leaves of an occurrence (R164, log entries 49 and 54). -/
@[simp] theorem Occurrence.setBack_extension (minute : Nat) (o : Occurrence) :
    (o.setBack minute).extension = if minute < o.stop then none else o.extension := rfl
@[simp] theorem Occurrence.setBack_startDue (minute : Nat) (o : Occurrence) :
    (o.setBack minute).startDue = (o.startDue && !(o.awaitsClockStart && decide (minute < o.start))) := rfl
@[simp] theorem Occurrence.setBack_phase (minute : Nat) (o : Occurrence) : (o.setBack minute).phase = o.phase := rfl
@[simp] theorem Occurrence.setBack_label (minute : Nat) (o : Occurrence) : (o.setBack minute).label = o.label := rfl

/-- An occurrence that neither extends nor has a start due goes on as it is. -/
theorem Occurrence.setBack_of_none {minute : Nat} {o : Occurrence} (h : o.extension = none) (d : o.startDue = false) :
    o.setBack minute = o := by
  cases o; simp_all [Occurrence.setBack]

/-- A step back writes nothing of the engine but the occurrence so set back, and raises no TIMER_STATE. -/
theorem updateOccurrence_setBack (minute : Nat) (s : State) :
    updateOccurrence (Occurrence.setBack minute) s =
      s.modEngine fun e => { e with current := e.current.map (Occurrence.setBack minute) } := by
  cases h : s.engine.current with
  | none =>
    cases s
    simp_all [updateOccurrence, State.modEngine]
    rw [← h]
  | some o => simp [updateOccurrence, raiseIf, State.modEngine, h]

@[simp] theorem clockStep_keeps (old new : Nat) (s : State) :
    (clockStep old new s).protection = s.protection ∧ (clockStep old new s).pins = s.pins ∧
    (clockStep old new s).presets = s.presets ∧ (clockStep old new s).settings = s.settings ∧
    (clockStep old new s).nv = s.nv ∧ (clockStep old new s).pending = s.pending ∧
    (clockStep old new s).draws = s.draws := by
  simp only [clockStep]
  (repeat' split) <;> simp

@[simp] theorem applyTime_keeps (x : DateTime) (sub : Nat) (s : State) :
    (applyTime x sub s).protection = s.protection ∧ (applyTime x sub s).pins = s.pins ∧
    (applyTime x sub s).presets = s.presets ∧ (applyTime x sub s).settings = s.settings ∧
    (applyTime x sub s).nv = s.nv ∧ (applyTime x sub s).pending = s.pending ∧
    (applyTime x sub s).draws = s.draws := by
  simp only [applyTime]
  (repeat' split) <;> simp

@[simp] theorem applyCorrection_keeps (s : State) :
    (applyCorrection s).protection = s.protection ∧ (applyCorrection s).pins = s.pins ∧
    (applyCorrection s).presets = s.presets ∧ (applyCorrection s).settings = s.settings ∧
    (applyCorrection s).nv = s.nv ∧ (applyCorrection s).pending = s.pending ∧
    (applyCorrection s).draws = s.draws := by
  simp only [applyCorrection]
  (repeat' split) <;> simp

@[simp] theorem finishEnding_keeps (o : Occurrence) (s : State) :
    (finishEnding o s).protection = s.protection ∧ (finishEnding o s).pins = s.pins ∧
    (finishEnding o s).presets = s.presets ∧ (finishEnding o s).settings = s.settings ∧
    (finishEnding o s).nv = s.nv ∧ (finishEnding o s).pending = s.pending ∧ (finishEnding o s).draws = s.draws := by
  simp only [finishEnding]
  (repeat' split) <;> simp

theorem occurrenceAction_keeps (o : Occurrence) {s u : State} (h : occurrenceAction o s = some u) :
    u.protection = s.protection ∧
    u.pins = s.pins ∧
    u.presets = s.presets ∧
    u.settings = s.settings ∧
    u.nv = s.nv ∧
    u.pending = s.pending ∧
    u.draws = s.draws := by
  simp only [occurrenceAction] at h
  repeat' split at h
  all_goals first | (cases h; done) | (cases h; simp)

theorem engineAction_keeps  {s u : State} (h : engineAction s = some u) :
    u.protection = s.protection ∧
    u.pins = s.pins ∧
    u.presets = s.presets ∧
    u.settings = s.settings ∧
    u.nv = s.nv ∧
    u.pending = s.pending ∧
    u.draws = s.draws := by
  simp only [engineAction] at h
  split at h
  · cases h
  · split at h
    · exact occurrenceAction_keeps _ h
    · split at h
      · cases h; simp
      · cases h

@[simp] theorem runEngine_keeps (fuel : Nat) (s : State) :
    (runEngine fuel s).protection = s.protection ∧ (runEngine fuel s).pins = s.pins ∧
    (runEngine fuel s).presets = s.presets ∧ (runEngine fuel s).settings = s.settings ∧
    (runEngine fuel s).nv = s.nv ∧ (runEngine fuel s).pending = s.pending ∧ (runEngine fuel s).draws = s.draws := by
  induction fuel generalizing s with
  | zero => simp [runEngine]
  | succ n ih =>
    simp only [runEngine]
    split
    · next h => have := engineAction_keeps h; simp [ih, this]
    · simp

@[simp] theorem userStop_keeps (s : State) :
    (userStop s).protection = s.protection ∧ (userStop s).pins = s.pins ∧ (userStop s).clock = s.clock ∧
    (userStop s).tuner = s.tuner ∧ (userStop s).presets = s.presets ∧ (userStop s).receiver = s.receiver ∧
    (userStop s).power = s.power ∧ (userStop s).settings = s.settings ∧ (userStop s).nv = s.nv ∧
    (userStop s).pending = s.pending ∧ (userStop s).draws = s.draws := by
  simp only [userStop]
  simp

@[simp] theorem endNoting_keeps (n : Noted) (v : Verdict) (s : State) :
    (endNoting n v s).protection = s.protection ∧ (endNoting n v s).pins = s.pins ∧
    (endNoting n v s).clock = s.clock ∧ (endNoting n v s).tuner = s.tuner ∧ (endNoting n v s).presets = s.presets ∧
    (endNoting n v s).receiver = s.receiver ∧ (endNoting n v s).power = s.power ∧
    (endNoting n v s).settings = s.settings ∧ (endNoting n v s).nv = s.nv ∧ (endNoting n v s).pending = s.pending ∧
    (endNoting n v s).draws = s.draws := by
  simp only [endNoting]
  simp

@[simp] theorem faultUnderTimer_keeps (s : State) :
    (faultUnderTimer s).protection = s.protection ∧ (faultUnderTimer s).pins = s.pins ∧
    (faultUnderTimer s).clock = s.clock ∧ (faultUnderTimer s).tuner = s.tuner ∧
    (faultUnderTimer s).presets = s.presets ∧ (faultUnderTimer s).receiver = s.receiver ∧
    (faultUnderTimer s).power = s.power ∧ (faultUnderTimer s).settings = s.settings ∧
    (faultUnderTimer s).nv = s.nv ∧ (faultUnderTimer s).pending = s.pending ∧
    (faultUnderTimer s).draws = s.draws := by
  simp only [faultUnderTimer]
  (repeat' split) <;> simp

@[simp] theorem edgeUnderTimer_keeps (s : State) :
    (edgeUnderTimer s).protection = s.protection ∧ (edgeUnderTimer s).pins = s.pins ∧
    (edgeUnderTimer s).clock = s.clock ∧ (edgeUnderTimer s).tuner = s.tuner ∧
    (edgeUnderTimer s).presets = s.presets ∧ (edgeUnderTimer s).receiver = s.receiver ∧
    (edgeUnderTimer s).power = s.power ∧ (edgeUnderTimer s).settings = s.settings ∧
    (edgeUnderTimer s).nv = s.nv ∧ (edgeUnderTimer s).pending = s.pending ∧ (edgeUnderTimer s).draws = s.draws := by
  simp only [edgeUnderTimer]
  simp

@[simp] theorem recPauseLimitUnderTimer_keeps (s : State) :
    (recPauseLimitUnderTimer s).protection = s.protection ∧ (recPauseLimitUnderTimer s).pins = s.pins ∧
    (recPauseLimitUnderTimer s).clock = s.clock ∧ (recPauseLimitUnderTimer s).tuner = s.tuner ∧
    (recPauseLimitUnderTimer s).presets = s.presets ∧ (recPauseLimitUnderTimer s).receiver = s.receiver ∧
    (recPauseLimitUnderTimer s).slots = s.slots ∧ (recPauseLimitUnderTimer s).power = s.power ∧
    (recPauseLimitUnderTimer s).settings = s.settings ∧ (recPauseLimitUnderTimer s).store = s.store ∧
    (recPauseLimitUnderTimer s).nv = s.nv ∧ (recPauseLimitUnderTimer s).pending = s.pending ∧
    (recPauseLimitUnderTimer s).draws = s.draws := by
  simp only [recPauseLimitUnderTimer]
  (repeat' split) <;> simp

@[simp] theorem engineLoss_keeps (s : State) :
    (engineLoss s).transport = s.transport ∧ (engineLoss s).protection = s.protection ∧
    (engineLoss s).outputs = s.outputs ∧ (engineLoss s).pins = s.pins ∧ (engineLoss s).position = s.position ∧
    (engineLoss s).reels = s.reels ∧ (engineLoss s).gauge = s.gauge ∧ (engineLoss s).clock = s.clock ∧
    (engineLoss s).tuner = s.tuner ∧ (engineLoss s).presets = s.presets ∧
    (engineLoss s).receiver = s.receiver ∧ (engineLoss s).slots = s.slots ∧ (engineLoss s).power = s.power ∧
    (engineLoss s).settings = s.settings ∧ (engineLoss s).store = s.store ∧ (engineLoss s).nv = s.nv ∧
    (engineLoss s).pending = s.pending ∧ (engineLoss s).draws = s.draws := by
  simp only [engineLoss]
  simp

@[simp] theorem restoreOccurrence_keeps (o : Occurrence) (s : State) :
    (restoreOccurrence o s).protection = s.protection ∧ (restoreOccurrence o s).pins = s.pins ∧
    (restoreOccurrence o s).presets = s.presets ∧ (restoreOccurrence o s).settings = s.settings ∧
    (restoreOccurrence o s).nv = s.nv ∧ (restoreOccurrence o s).pending = s.pending ∧
    (restoreOccurrence o s).draws = s.draws := by
  simp only [restoreOccurrence]
  (repeat' split) <;> simp

@[simp] theorem engineRestore_keeps (s : State) :
    (engineRestore s).protection = s.protection ∧ (engineRestore s).pins = s.pins ∧
    (engineRestore s).presets = s.presets ∧ (engineRestore s).settings = s.settings ∧
    (engineRestore s).nv = s.nv ∧ (engineRestore s).pending = s.pending ∧ (engineRestore s).draws = s.draws := by
  simp only [engineRestore]
  (repeat' split) <;> simp

@[simp] theorem engineLineReset_keeps (s : State) :
    (engineLineReset s).transport = s.transport ∧ (engineLineReset s).protection = s.protection ∧
    (engineLineReset s).outputs = s.outputs ∧ (engineLineReset s).pins = s.pins ∧
    (engineLineReset s).position = s.position ∧ (engineLineReset s).reels = s.reels ∧
    (engineLineReset s).gauge = s.gauge ∧ (engineLineReset s).clock = s.clock ∧
    (engineLineReset s).tuner = s.tuner ∧ (engineLineReset s).presets = s.presets ∧
    (engineLineReset s).receiver = s.receiver ∧ (engineLineReset s).power = s.power ∧
    (engineLineReset s).settings = s.settings ∧ (engineLineReset s).nv = s.nv ∧
    (engineLineReset s).pending = s.pending ∧ (engineLineReset s).draws = s.draws := by
  simp only [engineLineReset]
  (repeat' split) <;> simp

@[simp] theorem startWrite_keeps (a : Area) (s : State) :
    (startWrite a s).transport = s.transport ∧ (startWrite a s).protection = s.protection ∧
    (startWrite a s).outputs = s.outputs ∧ (startWrite a s).pins = s.pins ∧
    (startWrite a s).position = s.position ∧ (startWrite a s).reels = s.reels ∧
    (startWrite a s).gauge = s.gauge ∧ (startWrite a s).clock = s.clock ∧ (startWrite a s).tuner = s.tuner ∧
    (startWrite a s).presets = s.presets ∧ (startWrite a s).receiver = s.receiver ∧
    (startWrite a s).slots = s.slots ∧ (startWrite a s).engine = s.engine ∧ (startWrite a s).power = s.power ∧
    (startWrite a s).settings = s.settings ∧ (startWrite a s).nv = s.nv ∧ (startWrite a s).ports = s.ports ∧
    (startWrite a s).pending = s.pending ∧ (startWrite a s).draws = s.draws := by
  simp only [startWrite]
  simp

@[simp] theorem startRound_keeps (round : List Area) (s : State) :
    (startRound round s).transport = s.transport ∧ (startRound round s).protection = s.protection ∧
    (startRound round s).outputs = s.outputs ∧ (startRound round s).pins = s.pins ∧
    (startRound round s).position = s.position ∧ (startRound round s).reels = s.reels ∧
    (startRound round s).gauge = s.gauge ∧ (startRound round s).clock = s.clock ∧
    (startRound round s).tuner = s.tuner ∧ (startRound round s).presets = s.presets ∧
    (startRound round s).receiver = s.receiver ∧ (startRound round s).slots = s.slots ∧
    (startRound round s).engine = s.engine ∧ (startRound round s).power = s.power ∧
    (startRound round s).settings = s.settings ∧ (startRound round s).nv = s.nv ∧
    (startRound round s).ports = s.ports ∧
    (startRound round s).pending = s.pending ∧ (startRound round s).draws = s.draws := by
  simp only [startRound]
  (repeat' split) <;> simp

@[simp] theorem startWriter_keeps (s : State) :
    (startWriter s).transport = s.transport ∧ (startWriter s).protection = s.protection ∧
    (startWriter s).outputs = s.outputs ∧ (startWriter s).pins = s.pins ∧
    (startWriter s).position = s.position ∧ (startWriter s).reels = s.reels ∧ (startWriter s).gauge = s.gauge ∧
    (startWriter s).clock = s.clock ∧ (startWriter s).tuner = s.tuner ∧ (startWriter s).presets = s.presets ∧
    (startWriter s).receiver = s.receiver ∧ (startWriter s).slots = s.slots ∧
    (startWriter s).engine = s.engine ∧ (startWriter s).power = s.power ∧
    (startWriter s).settings = s.settings ∧ (startWriter s).nv = s.nv ∧ (startWriter s).ports = s.ports ∧
    (startWriter s).pending = s.pending ∧ (startWriter s).draws = s.draws := by
  simp only [startWriter]
  (repeat' split) <;> simp

@[simp] theorem finish_keeps (s : State) :
    (finish s).transport = s.transport ∧ (finish s).protection = s.protection ∧
    (finish s).outputs = s.outputs ∧ (finish s).pins = s.pins ∧ (finish s).position = s.position ∧
    (finish s).reels = s.reels ∧ (finish s).gauge = s.gauge ∧ (finish s).clock = s.clock ∧
    (finish s).tuner = s.tuner ∧ (finish s).presets = s.presets ∧ (finish s).receiver = s.receiver ∧
    (finish s).slots = s.slots ∧ (finish s).engine = s.engine ∧ (finish s).power = s.power ∧
    (finish s).settings = s.settings ∧ (finish s).nv = s.nv ∧ (finish s).pending = s.pending ∧ (finish s).draws = s.draws := by
  simp only [finish]
  simp

@[simp] theorem settle_keeps (s : State) :
    (settle s).protection = s.protection ∧ (settle s).pins = s.pins ∧ (settle s).presets = s.presets ∧
    (settle s).settings = s.settings ∧ (settle s).nv = s.nv ∧ (settle s).pending = s.pending ∧ (settle s).draws = s.draws := by
  simp only [settle]
  simp

@[simp] theorem countTape_keeps (k : Nat) (s : State) :
    (countTape k s).protection = s.protection ∧ (countTape k s).outputs = s.outputs ∧
    (countTape k s).pins = s.pins ∧ (countTape k s).position = s.position ∧ (countTape k s).reels = s.reels ∧
    (countTape k s).gauge = s.gauge ∧ (countTape k s).clock = s.clock ∧ (countTape k s).tuner = s.tuner ∧
    (countTape k s).presets = s.presets ∧ (countTape k s).receiver = s.receiver ∧
    (countTape k s).slots = s.slots ∧ (countTape k s).power = s.power ∧ (countTape k s).settings = s.settings ∧
    (countTape k s).store = s.store ∧ (countTape k s).nv = s.nv ∧ (countTape k s).ports = s.ports ∧
    (countTape k s).pending = s.pending ∧ (countTape k s).draws = s.draws := by
  simp only [countTape]
  (repeat' split) <;> simp

@[simp] theorem increment_keeps (k : Nat) (s : State) :
    (increment k s).protection = s.protection ∧ (increment k s).pins = s.pins ∧
    (increment k s).presets = s.presets ∧ (increment k s).settings = s.settings ∧ (increment k s).nv = s.nv ∧
    (increment k s).pending = s.pending ∧ (increment k s).draws = s.draws := by
  simp only [increment]
  (repeat' split) <;> simp

@[simp] theorem mainsCycle_keeps (s : State) :
    (mainsCycle s).protection = s.protection ∧ (mainsCycle s).pins = s.pins ∧
    (mainsCycle s).presets = s.presets ∧ (mainsCycle s).settings = s.settings ∧ (mainsCycle s).nv = s.nv ∧
    (mainsCycle s).pending = s.pending ∧ (mainsCycle s).draws = s.draws := by
  simp only [mainsCycle]
  (repeat' split) <;> simp

@[simp] theorem crystalTick_keeps (s : State) :
    (crystalTick s).protection = s.protection ∧ (crystalTick s).pins = s.pins ∧
    (crystalTick s).presets = s.presets ∧ (crystalTick s).settings = s.settings ∧ (crystalTick s).nv = s.nv ∧
    (crystalTick s).pending = s.pending ∧ (crystalTick s).draws = s.draws := by
  simp only [crystalTick]
  (repeat' split) <;> simp

@[simp] theorem setDate_keeps (l : Link) (arg : Arg) (s : State) :
    (setDate l arg s).2.transport = s.transport ∧ (setDate l arg s).2.protection = s.protection ∧
    (setDate l arg s).2.outputs = s.outputs ∧ (setDate l arg s).2.pins = s.pins ∧
    (setDate l arg s).2.position = s.position ∧ (setDate l arg s).2.reels = s.reels ∧
    (setDate l arg s).2.gauge = s.gauge ∧ (setDate l arg s).2.tuner = s.tuner ∧
    (setDate l arg s).2.presets = s.presets ∧ (setDate l arg s).2.receiver = s.receiver ∧
    (setDate l arg s).2.slots = s.slots ∧ (setDate l arg s).2.engine = s.engine ∧
    (setDate l arg s).2.power = s.power ∧ (setDate l arg s).2.settings = s.settings ∧
    (setDate l arg s).2.store = s.store ∧ (setDate l arg s).2.nv = s.nv ∧ (setDate l arg s).2.ports = s.ports ∧
    (setDate l arg s).2.pending = s.pending ∧ (setDate l arg s).2.draws = s.draws := by
  simp only [setDate]
  (repeat' split) <;> simp

@[simp] theorem setTime_keeps (l : Link) (arg : Arg) (s : State) :
    (setTime l arg s).2.protection = s.protection ∧ (setTime l arg s).2.pins = s.pins ∧
    (setTime l arg s).2.presets = s.presets ∧ (setTime l arg s).2.settings = s.settings ∧
    (setTime l arg s).2.nv = s.nv ∧ (setTime l arg s).2.pending = s.pending ∧
    (setTime l arg s).2.draws = s.draws := by
  simp only [setTime]
  (repeat' split) <;> simp

@[simp] theorem setVerdict_keeps (v : BroadcastVerdict) (s : State) :
    (setVerdict v s).transport = s.transport ∧ (setVerdict v s).protection = s.protection ∧
    (setVerdict v s).outputs = s.outputs ∧ (setVerdict v s).pins = s.pins ∧
    (setVerdict v s).position = s.position ∧ (setVerdict v s).reels = s.reels ∧
    (setVerdict v s).gauge = s.gauge ∧ (setVerdict v s).tuner = s.tuner ∧
    (setVerdict v s).presets = s.presets ∧ (setVerdict v s).receiver = s.receiver ∧
    (setVerdict v s).slots = s.slots ∧ (setVerdict v s).engine = s.engine ∧ (setVerdict v s).power = s.power ∧
    (setVerdict v s).settings = s.settings ∧ (setVerdict v s).store = s.store ∧ (setVerdict v s).nv = s.nv ∧
    (setVerdict v s).ports = s.ports ∧ (setVerdict v s).pending = s.pending ∧ (setVerdict v s).draws = s.draws := by
  simp only [setVerdict]
  simp

@[simp] theorem acceptTime_keeps (local_ : Nat) (s : State) :
    (acceptTime local_ s).protection = s.protection ∧ (acceptTime local_ s).pins = s.pins ∧
    (acceptTime local_ s).presets = s.presets ∧ (acceptTime local_ s).settings = s.settings ∧
    (acceptTime local_ s).nv = s.nv ∧ (acceptTime local_ s).pending = s.pending ∧
    (acceptTime local_ s).draws = s.draws := by
  simp only [acceptTime]
  (repeat' split) <;> simp

@[simp] theorem broadcastTime_keeps (identity : Nat) (utc : DateTime) (offset : Int) (s : State) :
    (broadcastTime identity utc offset s).protection = s.protection ∧
    (broadcastTime identity utc offset s).pins = s.pins ∧
    (broadcastTime identity utc offset s).presets = s.presets ∧
    (broadcastTime identity utc offset s).settings = s.settings ∧
    (broadcastTime identity utc offset s).nv = s.nv ∧
    (broadcastTime identity utc offset s).pending = s.pending ∧
    (broadcastTime identity utc offset s).draws = s.draws := by
  simp only [broadcastTime]
  (repeat' split) <;> simp

@[simp] theorem autoClockOff_keeps (s : State) :
    (autoClockOff s).transport = s.transport ∧ (autoClockOff s).protection = s.protection ∧
    (autoClockOff s).outputs = s.outputs ∧ (autoClockOff s).pins = s.pins ∧
    (autoClockOff s).position = s.position ∧ (autoClockOff s).reels = s.reels ∧
    (autoClockOff s).gauge = s.gauge ∧ (autoClockOff s).tuner = s.tuner ∧
    (autoClockOff s).presets = s.presets ∧ (autoClockOff s).receiver = s.receiver ∧
    (autoClockOff s).slots = s.slots ∧ (autoClockOff s).engine = s.engine ∧ (autoClockOff s).power = s.power ∧
    (autoClockOff s).settings = s.settings ∧ (autoClockOff s).store = s.store ∧ (autoClockOff s).nv = s.nv ∧
    (autoClockOff s).ports = s.ports ∧ (autoClockOff s).pending = s.pending ∧ (autoClockOff s).draws = s.draws := by
  simp only [autoClockOff]
  simp

@[simp] theorem clockLoss_keeps (s : State) :
    (clockLoss s).transport = s.transport ∧ (clockLoss s).protection = s.protection ∧
    (clockLoss s).outputs = s.outputs ∧ (clockLoss s).pins = s.pins ∧ (clockLoss s).position = s.position ∧
    (clockLoss s).reels = s.reels ∧ (clockLoss s).gauge = s.gauge ∧ (clockLoss s).tuner = s.tuner ∧
    (clockLoss s).presets = s.presets ∧ (clockLoss s).receiver = s.receiver ∧ (clockLoss s).slots = s.slots ∧
    (clockLoss s).engine = s.engine ∧ (clockLoss s).power = s.power ∧ (clockLoss s).settings = s.settings ∧
    (clockLoss s).store = s.store ∧ (clockLoss s).nv = s.nv ∧ (clockLoss s).ports = s.ports ∧
    (clockLoss s).pending = s.pending ∧ (clockLoss s).draws = s.draws := by
  simp only [clockLoss]
  simp

@[simp] theorem learnIdentity_keeps (identity : Nat) (s : State) :
    (learnIdentity identity s).transport = s.transport ∧ (learnIdentity identity s).protection = s.protection ∧
    (learnIdentity identity s).pins = s.pins ∧ (learnIdentity identity s).position = s.position ∧
    (learnIdentity identity s).reels = s.reels ∧ (learnIdentity identity s).gauge = s.gauge ∧
    (learnIdentity identity s).slots = s.slots ∧ (learnIdentity identity s).engine = s.engine ∧
    (learnIdentity identity s).power = s.power ∧ (learnIdentity identity s).settings = s.settings ∧
    (learnIdentity identity s).nv = s.nv ∧ (learnIdentity identity s).pending = s.pending ∧
    (learnIdentity identity s).draws = s.draws := by
  simp only [learnIdentity]
  (repeat' split) <;> simp

@[simp] theorem labelEffect_keeps (o : Occurrence) (matching : Bool) (status : ProgStatus) (s : State) :
    (labelEffect o matching status s).protection = s.protection ∧
    (labelEffect o matching status s).pins = s.pins ∧ (labelEffect o matching status s).clock = s.clock ∧
    (labelEffect o matching status s).tuner = s.tuner ∧ (labelEffect o matching status s).presets = s.presets ∧
    (labelEffect o matching status s).receiver = s.receiver ∧
    (labelEffect o matching status s).power = s.power ∧
    (labelEffect o matching status s).settings = s.settings ∧ (labelEffect o matching status s).nv = s.nv ∧
    (labelEffect o matching status s).pending = s.pending ∧ (labelEffect o matching status s).draws = s.draws := by
  simp only [labelEffect]
  (repeat' split) <;> simp

@[simp] theorem restartSilence_keeps (s : State) :
    (restartSilence s).transport = s.transport ∧ (restartSilence s).protection = s.protection ∧
    (restartSilence s).outputs = s.outputs ∧ (restartSilence s).pins = s.pins ∧
    (restartSilence s).position = s.position ∧ (restartSilence s).reels = s.reels ∧
    (restartSilence s).gauge = s.gauge ∧ (restartSilence s).clock = s.clock ∧
    (restartSilence s).tuner = s.tuner ∧ (restartSilence s).presets = s.presets ∧
    (restartSilence s).receiver = s.receiver ∧ (restartSilence s).slots = s.slots ∧
    (restartSilence s).power = s.power ∧ (restartSilence s).settings = s.settings ∧
    (restartSilence s).store = s.store ∧ (restartSilence s).nv = s.nv ∧
    (restartSilence s).pending = s.pending ∧ (restartSilence s).draws = s.draws := by
  simp only [restartSilence]
  simp

@[simp] theorem examineLabel_keeps (identity day month hour minute : Nat) (status : ProgStatus) (s : State) :
    (examineLabel identity day month hour minute status s).protection = s.protection ∧
    (examineLabel identity day month hour minute status s).pins = s.pins ∧
    (examineLabel identity day month hour minute status s).clock = s.clock ∧
    (examineLabel identity day month hour minute status s).tuner = s.tuner ∧
    (examineLabel identity day month hour minute status s).presets = s.presets ∧
    (examineLabel identity day month hour minute status s).receiver = s.receiver ∧
    (examineLabel identity day month hour minute status s).power = s.power ∧
    (examineLabel identity day month hour minute status s).settings = s.settings ∧
    (examineLabel identity day month hour minute status s).nv = s.nv ∧
    (examineLabel identity day month hour minute status s).pending = s.pending ∧
    (examineLabel identity day month hour minute status s).draws = s.draws := by
  simp only [examineLabel]
  (repeat' split) <;> simp

@[simp] theorem silenceExpired_keeps (s : State) :
    (silenceExpired s).protection = s.protection ∧ (silenceExpired s).pins = s.pins ∧
    (silenceExpired s).clock = s.clock ∧ (silenceExpired s).tuner = s.tuner ∧
    (silenceExpired s).presets = s.presets ∧ (silenceExpired s).receiver = s.receiver ∧
    (silenceExpired s).power = s.power ∧ (silenceExpired s).settings = s.settings ∧
    (silenceExpired s).nv = s.nv ∧ (silenceExpired s).pending = s.pending ∧ (silenceExpired s).draws = s.draws := by
  simp only [silenceExpired]
  (repeat' split) <;> simp

@[simp] theorem offerLabel_keeps (p : Packet) (s : State) :
    (offerLabel p s).transport = s.transport ∧ (offerLabel p s).protection = s.protection ∧
    (offerLabel p s).outputs = s.outputs ∧ (offerLabel p s).pins = s.pins ∧
    (offerLabel p s).position = s.position ∧ (offerLabel p s).reels = s.reels ∧
    (offerLabel p s).gauge = s.gauge ∧ (offerLabel p s).clock = s.clock ∧ (offerLabel p s).tuner = s.tuner ∧
    (offerLabel p s).presets = s.presets ∧ (offerLabel p s).slots = s.slots ∧
    (offerLabel p s).engine = s.engine ∧ (offerLabel p s).power = s.power ∧
    (offerLabel p s).settings = s.settings ∧ (offerLabel p s).store = s.store ∧ (offerLabel p s).nv = s.nv ∧
    (offerLabel p s).pending = s.pending ∧ (offerLabel p s).draws = s.draws := by
  simp only [offerLabel]
  (repeat' split) <;> simp

@[simp] theorem deliver_keeps (p : Packet) (s : State) :
    (deliver p s).protection = s.protection ∧ (deliver p s).pins = s.pins ∧
    (deliver p s).settings = s.settings ∧ (deliver p s).nv = s.nv ∧ (deliver p s).pending = s.pending ∧
    (deliver p s).draws = s.draws := by
  simp only [deliver]
  (repeat' split) <;> simp

@[simp] theorem terminate_keeps (why : Termination) (s : State) :
    (terminate why s).transport = s.transport ∧ (terminate why s).protection = s.protection ∧
    (terminate why s).outputs = s.outputs ∧ (terminate why s).pins = s.pins ∧
    (terminate why s).position = s.position ∧ (terminate why s).reels = s.reels ∧
    (terminate why s).gauge = s.gauge ∧ (terminate why s).clock = s.clock ∧ (terminate why s).tuner = s.tuner ∧
    (terminate why s).presets = s.presets ∧ (terminate why s).slots = s.slots ∧
    (terminate why s).engine = s.engine ∧ (terminate why s).power = s.power ∧
    (terminate why s).settings = s.settings ∧ (terminate why s).store = s.store ∧ (terminate why s).nv = s.nv ∧
    (terminate why s).ports = s.ports ∧ (terminate why s).pending = s.pending ∧
    (terminate why s).draws = s.draws := by
  simp only [terminate]
  simp

@[simp] theorem collectByte_keeps (b : SlicerByte) (c : Collecting) (s : State) :
    (collectByte b c s).protection = s.protection ∧ (collectByte b c s).pins = s.pins ∧
    (collectByte b c s).settings = s.settings ∧ (collectByte b c s).nv = s.nv ∧
    (collectByte b c s).pending = s.pending ∧ (collectByte b c s).draws = s.draws := by
  simp only [collectByte]
  (repeat' split) <;> simp

@[simp] theorem slicerByte_keeps (b : SlicerByte) (good : Bool) (s : State) :
    (slicerByte b good s).protection = s.protection ∧ (slicerByte b good s).pins = s.pins ∧
    (slicerByte b good s).settings = s.settings ∧ (slicerByte b good s).nv = s.nv ∧
    (slicerByte b good s).pending = s.pending ∧ (slicerByte b good s).draws = s.draws := by
  simp only [slicerByte]
  (repeat' split) <;> simp

end Sys2Proof.Machine
end

