-- ==== Sys2Proof/Laws/UnitsFrames.lean ====
section
/-!
SUPPORT. What each operation of the store, the timer requests, the resets, the ports and the events leaves as it was: one lemma for each, every untouched record an equation.
-/

namespace Sys2Proof.Machine

@[simp] theorem nextWrite_keeps (s : State) :
    (nextWrite s).transport = s.transport ∧ (nextWrite s).protection = s.protection ∧
    (nextWrite s).outputs = s.outputs ∧ (nextWrite s).pins = s.pins ∧ (nextWrite s).position = s.position ∧
    (nextWrite s).reels = s.reels ∧ (nextWrite s).gauge = s.gauge ∧ (nextWrite s).clock = s.clock ∧
    (nextWrite s).tuner = s.tuner ∧ (nextWrite s).presets = s.presets ∧ (nextWrite s).receiver = s.receiver ∧
    (nextWrite s).slots = s.slots ∧ (nextWrite s).engine = s.engine ∧ (nextWrite s).power = s.power ∧
    (nextWrite s).settings = s.settings ∧ (nextWrite s).ports = s.ports ∧ (nextWrite s).pending = s.pending ∧
    (nextWrite s).draws = s.draws := by
  simp only [nextWrite]
  (repeat' split) <;> simp

@[simp] theorem writeAcknowledged_keeps (s : State) :
    (writeAcknowledged s).transport = s.transport ∧ (writeAcknowledged s).protection = s.protection ∧
    (writeAcknowledged s).outputs = s.outputs ∧ (writeAcknowledged s).pins = s.pins ∧
    (writeAcknowledged s).position = s.position ∧ (writeAcknowledged s).reels = s.reels ∧
    (writeAcknowledged s).gauge = s.gauge ∧ (writeAcknowledged s).clock = s.clock ∧
    (writeAcknowledged s).tuner = s.tuner ∧ (writeAcknowledged s).presets = s.presets ∧
    (writeAcknowledged s).receiver = s.receiver ∧ (writeAcknowledged s).slots = s.slots ∧
    (writeAcknowledged s).engine = s.engine ∧ (writeAcknowledged s).power = s.power ∧
    (writeAcknowledged s).settings = s.settings ∧ (writeAcknowledged s).pending = s.pending ∧
    (writeAcknowledged s).draws = s.draws := by
  simp only [writeAcknowledged]
  (repeat' split) <;> simp

@[simp] theorem writeFailed_keeps (s : State) :
    (writeFailed s).transport = s.transport ∧ (writeFailed s).protection = s.protection ∧
    (writeFailed s).outputs = s.outputs ∧ (writeFailed s).pins = s.pins ∧
    (writeFailed s).position = s.position ∧ (writeFailed s).reels = s.reels ∧ (writeFailed s).gauge = s.gauge ∧
    (writeFailed s).clock = s.clock ∧ (writeFailed s).tuner = s.tuner ∧ (writeFailed s).presets = s.presets ∧
    (writeFailed s).receiver = s.receiver ∧ (writeFailed s).slots = s.slots ∧
    (writeFailed s).engine = s.engine ∧ (writeFailed s).power = s.power ∧
    (writeFailed s).settings = s.settings ∧ (writeFailed s).pending = s.pending := by
  simp only [writeFailed]
  (repeat' split) <;> simp

@[simp] theorem changeSetting_keeps (n v : Nat) (s : State) :
    (changeSetting n v s).transport = s.transport ∧ (changeSetting n v s).protection = s.protection ∧
    (changeSetting n v s).outputs = s.outputs ∧ (changeSetting n v s).pins = s.pins ∧
    (changeSetting n v s).position = s.position ∧ (changeSetting n v s).reels = s.reels ∧
    (changeSetting n v s).gauge = s.gauge ∧ (changeSetting n v s).clock = s.clock ∧
    (changeSetting n v s).tuner = s.tuner ∧ (changeSetting n v s).presets = s.presets ∧
    (changeSetting n v s).receiver = s.receiver ∧ (changeSetting n v s).slots = s.slots ∧
    (changeSetting n v s).engine = s.engine ∧ (changeSetting n v s).power = s.power ∧
    (changeSetting n v s).nv = s.nv ∧ (changeSetting n v s).ports = s.ports ∧
    (changeSetting n v s).pending = s.pending ∧ (changeSetting n v s).draws = s.draws := by
  simp only [changeSetting]
  simp

@[simp] theorem handSetting_keeps (n v : Nat) (s : State) :
    (handSetting n v s).protection = s.protection ∧ (handSetting n v s).pins = s.pins ∧
    (handSetting n v s).tuner = s.tuner ∧ (handSetting n v s).presets = s.presets ∧
    (handSetting n v s).receiver = s.receiver ∧ (handSetting n v s).slots = s.slots ∧
    (handSetting n v s).engine = s.engine ∧ (handSetting n v s).power = s.power ∧
    (handSetting n v s).settings = s.settings ∧ (handSetting n v s).store = s.store ∧
    (handSetting n v s).nv = s.nv ∧ (handSetting n v s).pending = s.pending ∧
    (handSetting n v s).draws = s.draws := by
  simp only [handSetting]
  (repeat' split) <;> simp

@[simp] theorem setMode_keeps (on : Bool) (s : State) :
    (setMode on s).transport = s.transport ∧ (setMode on s).protection = s.protection ∧
    (setMode on s).outputs = s.outputs ∧ (setMode on s).pins = s.pins ∧ (setMode on s).position = s.position ∧
    (setMode on s).reels = s.reels ∧ (setMode on s).gauge = s.gauge ∧ (setMode on s).clock = s.clock ∧
    (setMode on s).tuner = s.tuner ∧ (setMode on s).presets = s.presets ∧
    (setMode on s).receiver = s.receiver ∧ (setMode on s).slots = s.slots ∧ (setMode on s).power = s.power ∧
    (setMode on s).nv = s.nv ∧ (setMode on s).pending = s.pending ∧ (setMode on s).draws = s.draws := by
  simp only [setMode]
  simp

@[simp] theorem timerOnOff_keeps (r : Rank) (arg : Nat) (s : State) :
    (timerOnOff r arg s).2.protection = s.protection ∧ (timerOnOff r arg s).2.pins = s.pins ∧
    (timerOnOff r arg s).2.clock = s.clock ∧ (timerOnOff r arg s).2.tuner = s.tuner ∧
    (timerOnOff r arg s).2.presets = s.presets ∧ (timerOnOff r arg s).2.receiver = s.receiver ∧
    (timerOnOff r arg s).2.power = s.power ∧ (timerOnOff r arg s).2.nv = s.nv ∧
    (timerOnOff r arg s).2.pending = s.pending ∧ (timerOnOff r arg s).2.draws = s.draws := by
  simp only [timerOnOff]
  (repeat' split) <;> simp

@[simp] theorem writeSetting_keeps (l : Link) (r : Rank) (number : Selector) (value : Value) (s : State) :
    (writeSetting l r number value s).2.protection = s.protection ∧
    (writeSetting l r number value s).2.pins = s.pins ∧ (writeSetting l r number value s).2.tuner = s.tuner ∧
    (writeSetting l r number value s).2.presets = s.presets ∧
    (writeSetting l r number value s).2.receiver = s.receiver ∧
    (writeSetting l r number value s).2.power = s.power ∧ (writeSetting l r number value s).2.nv = s.nv ∧
    (writeSetting l r number value s).2.pending = s.pending ∧
    (writeSetting l r number value s).2.draws = s.draws := by
  simp only [writeSetting]
  split
  · simp
  · split
    · split <;> next h =>
        have := timerOnOff_keeps r (settingTaken number.toNat value.toNat) s
        rw [h] at this; simp_all
    · split <;> simp

@[simp] theorem setLock_keeps (v : Bool) (s : State) :
    (setLock v s).transport = s.transport ∧ (setLock v s).protection = s.protection ∧
    (setLock v s).outputs = s.outputs ∧ (setLock v s).pins = s.pins ∧ (setLock v s).position = s.position ∧
    (setLock v s).reels = s.reels ∧ (setLock v s).gauge = s.gauge ∧ (setLock v s).clock = s.clock ∧
    (setLock v s).tuner = s.tuner ∧ (setLock v s).presets = s.presets ∧ (setLock v s).receiver = s.receiver ∧
    (setLock v s).slots = s.slots ∧ (setLock v s).power = s.power ∧ (setLock v s).settings = s.settings ∧
    (setLock v s).store = s.store ∧ (setLock v s).nv = s.nv ∧ (setLock v s).pending = s.pending ∧
    (setLock v s).draws = s.draws := by
  simp only [setLock]
  simp

@[simp] theorem lockTimer_keeps (r : Rank) (s : State) :
    (lockTimer r s).2.protection = s.protection ∧ (lockTimer r s).2.pins = s.pins ∧
    (lockTimer r s).2.clock = s.clock ∧ (lockTimer r s).2.tuner = s.tuner ∧
    (lockTimer r s).2.presets = s.presets ∧ (lockTimer r s).2.receiver = s.receiver ∧
    (lockTimer r s).2.slots = s.slots ∧ (lockTimer r s).2.settings = s.settings ∧
    (lockTimer r s).2.store = s.store ∧ (lockTimer r s).2.nv = s.nv ∧ (lockTimer r s).2.pending = s.pending ∧
    (lockTimer r s).2.draws = s.draws := by
  simp only [lockTimer]
  (repeat' split) <;> simp

@[simp] theorem unlockTimer_keeps (r : Rank) (s : State) :
    (unlockTimer r s).2.transport = s.transport ∧ (unlockTimer r s).2.protection = s.protection ∧
    (unlockTimer r s).2.outputs = s.outputs ∧ (unlockTimer r s).2.pins = s.pins ∧
    (unlockTimer r s).2.position = s.position ∧ (unlockTimer r s).2.reels = s.reels ∧
    (unlockTimer r s).2.gauge = s.gauge ∧ (unlockTimer r s).2.clock = s.clock ∧
    (unlockTimer r s).2.tuner = s.tuner ∧ (unlockTimer r s).2.presets = s.presets ∧
    (unlockTimer r s).2.receiver = s.receiver ∧ (unlockTimer r s).2.slots = s.slots ∧
    (unlockTimer r s).2.power = s.power ∧ (unlockTimer r s).2.settings = s.settings ∧
    (unlockTimer r s).2.store = s.store ∧ (unlockTimer r s).2.nv = s.nv ∧
    (unlockTimer r s).2.pending = s.pending ∧ (unlockTimer r s).2.draws = s.draws := by
  simp only [unlockTimer]
  (repeat' split) <;> simp

@[simp] theorem timerLockUnlock_keeps (r : Rank) (arg : Nat) (s : State) :
    (timerLockUnlock r arg s).2.protection = s.protection ∧ (timerLockUnlock r arg s).2.pins = s.pins ∧
    (timerLockUnlock r arg s).2.clock = s.clock ∧ (timerLockUnlock r arg s).2.tuner = s.tuner ∧
    (timerLockUnlock r arg s).2.presets = s.presets ∧ (timerLockUnlock r arg s).2.receiver = s.receiver ∧
    (timerLockUnlock r arg s).2.slots = s.slots ∧ (timerLockUnlock r arg s).2.settings = s.settings ∧
    (timerLockUnlock r arg s).2.store = s.store ∧ (timerLockUnlock r arg s).2.nv = s.nv ∧
    (timerLockUnlock r arg s).2.pending = s.pending ∧ (timerLockUnlock r arg s).2.draws = s.draws := by
  simp only [timerLockUnlock]
  (repeat' split) <;> simp

@[simp] theorem powerOn_keeps (s : State) :
    (powerOn s).2.transport = s.transport ∧ (powerOn s).2.protection = s.protection ∧
    (powerOn s).2.pins = s.pins ∧ (powerOn s).2.position = s.position ∧ (powerOn s).2.reels = s.reels ∧
    (powerOn s).2.gauge = s.gauge ∧ (powerOn s).2.presets = s.presets ∧ (powerOn s).2.slots = s.slots ∧
    (powerOn s).2.engine = s.engine ∧ (powerOn s).2.settings = s.settings ∧ (powerOn s).2.store = s.store ∧
    (powerOn s).2.nv = s.nv ∧ (powerOn s).2.pending = s.pending ∧ (powerOn s).2.draws = s.draws := by
  simp only [powerOn]
  (repeat' split) <;> simp

@[simp] theorem switchOff_keeps (l : Link) (s : State) :
    (switchOff l s).protection = s.protection ∧ (switchOff l s).pins = s.pins ∧
    (switchOff l s).clock = s.clock ∧ (switchOff l s).tuner = s.tuner ∧ (switchOff l s).presets = s.presets ∧
    (switchOff l s).receiver = s.receiver ∧ (switchOff l s).settings = s.settings ∧ (switchOff l s).nv = s.nv ∧
    (switchOff l s).pending = s.pending ∧ (switchOff l s).draws = s.draws := by
  simp only [switchOff]
  simp

@[simp] theorem powerOff_keeps (l : Link) (r : Rank) (s : State) :
    (powerOff l r s).2.protection = s.protection ∧ (powerOff l r s).2.pins = s.pins ∧
    (powerOff l r s).2.clock = s.clock ∧ (powerOff l r s).2.tuner = s.tuner ∧
    (powerOff l r s).2.presets = s.presets ∧ (powerOff l r s).2.receiver = s.receiver ∧
    (powerOff l r s).2.settings = s.settings ∧ (powerOff l r s).2.nv = s.nv ∧
    (powerOff l r s).2.pending = s.pending ∧ (powerOff l r s).2.draws = s.draws := by
  simp only [powerOff]
  (repeat' split) <;> simp

@[simp] theorem powerRequest_keeps (l : Link) (r : Rank) (arg : Nat) (s : State) :
    (powerRequest l r arg s).2.protection = s.protection ∧ (powerRequest l r arg s).2.pins = s.pins ∧
    (powerRequest l r arg s).2.presets = s.presets ∧ (powerRequest l r arg s).2.settings = s.settings ∧
    (powerRequest l r arg s).2.nv = s.nv ∧ (powerRequest l r arg s).2.pending = s.pending ∧
    (powerRequest l r arg s).2.draws = s.draws := by
  simp only [powerRequest]
  (repeat' split) <;> simp

@[simp] theorem powerReturnExpired_keeps (s : State) :
    (powerReturnExpired s).transport = s.transport ∧ (powerReturnExpired s).protection = s.protection ∧
    (powerReturnExpired s).outputs = s.outputs ∧ (powerReturnExpired s).pins = s.pins ∧
    (powerReturnExpired s).position = s.position ∧ (powerReturnExpired s).reels = s.reels ∧
    (powerReturnExpired s).gauge = s.gauge ∧ (powerReturnExpired s).clock = s.clock ∧
    (powerReturnExpired s).tuner = s.tuner ∧ (powerReturnExpired s).presets = s.presets ∧
    (powerReturnExpired s).receiver = s.receiver ∧ (powerReturnExpired s).slots = s.slots ∧
    (powerReturnExpired s).settings = s.settings ∧ (powerReturnExpired s).store = s.store ∧
    (powerReturnExpired s).nv = s.nv ∧ (powerReturnExpired s).ports = s.ports ∧
    (powerReturnExpired s).pending = s.pending ∧ (powerReturnExpired s).draws = s.draws := by
  simp only [powerReturnExpired]
  (repeat' split) <;> simp

@[simp] theorem haltMechanism_keeps (s : State) :
    (haltMechanism s).protection = s.protection ∧ (haltMechanism s).pins = s.pins ∧
    (haltMechanism s).clock = s.clock ∧ (haltMechanism s).tuner = s.tuner ∧
    (haltMechanism s).presets = s.presets ∧ (haltMechanism s).receiver = s.receiver ∧
    (haltMechanism s).slots = s.slots ∧ (haltMechanism s).engine = s.engine ∧
    (haltMechanism s).power = s.power ∧ (haltMechanism s).settings = s.settings ∧
    (haltMechanism s).store = s.store ∧ (haltMechanism s).nv = s.nv ∧ (haltMechanism s).pending = s.pending ∧
    (haltMechanism s).draws = s.draws := by
  simp only [haltMechanism]
  (repeat' split) <;> simp

@[simp] theorem portsLoss_keeps (wasOn : Bool) (s : State) :
    (portsLoss wasOn s).transport = s.transport ∧ (portsLoss wasOn s).protection = s.protection ∧
    (portsLoss wasOn s).outputs = s.outputs ∧ (portsLoss wasOn s).pins = s.pins ∧
    (portsLoss wasOn s).position = s.position ∧ (portsLoss wasOn s).reels = s.reels ∧
    (portsLoss wasOn s).gauge = s.gauge ∧ (portsLoss wasOn s).clock = s.clock ∧
    (portsLoss wasOn s).tuner = s.tuner ∧ (portsLoss wasOn s).presets = s.presets ∧
    (portsLoss wasOn s).receiver = s.receiver ∧ (portsLoss wasOn s).slots = s.slots ∧
    (portsLoss wasOn s).engine = s.engine ∧ (portsLoss wasOn s).power = s.power ∧
    (portsLoss wasOn s).settings = s.settings ∧ (portsLoss wasOn s).store = s.store ∧
    (portsLoss wasOn s).nv = s.nv ∧ (portsLoss wasOn s).pending = s.pending ∧
    (portsLoss wasOn s).draws = s.draws := by
  simp only [portsLoss]
  (repeat' split) <;> simp

@[simp] theorem mainsLoss_keeps (s : State) :
    (mainsLoss s).protection = s.protection ∧ (mainsLoss s).pins = s.pins ∧ (mainsLoss s).presets = s.presets ∧
    (mainsLoss s).slots = s.slots ∧ (mainsLoss s).settings = s.settings ∧ (mainsLoss s).store = s.store ∧
    (mainsLoss s).nv = s.nv ∧ (mainsLoss s).pending = s.pending ∧ (mainsLoss s).draws = s.draws := by
  simp only [mainsLoss]
  (repeat' split) <;> simp

@[simp] theorem unlockOnEmpty_keeps (x : Readings) (s : State) :
    (unlockOnEmpty x s).transport = s.transport ∧ (unlockOnEmpty x s).protection = s.protection ∧
    (unlockOnEmpty x s).outputs = s.outputs ∧ (unlockOnEmpty x s).pins = s.pins ∧
    (unlockOnEmpty x s).position = s.position ∧ (unlockOnEmpty x s).reels = s.reels ∧
    (unlockOnEmpty x s).gauge = s.gauge ∧ (unlockOnEmpty x s).clock = s.clock ∧
    (unlockOnEmpty x s).tuner = s.tuner ∧ (unlockOnEmpty x s).presets = s.presets ∧
    (unlockOnEmpty x s).receiver = s.receiver ∧ (unlockOnEmpty x s).slots = s.slots ∧
    (unlockOnEmpty x s).power = s.power ∧ (unlockOnEmpty x s).settings = s.settings ∧
    (unlockOnEmpty x s).store = s.store ∧ (unlockOnEmpty x s).nv = s.nv ∧
    (unlockOnEmpty x s).pending = s.pending ∧ (unlockOnEmpty x s).draws = s.draws := by
  simp only [unlockOnEmpty]
  (repeat' split) <;> simp

@[simp] theorem firstMains_keeps (x : Readings) (s : State) :
    (firstMains x s).protection = s.protection ∧ (firstMains x s).tuner = s.tuner ∧
    (firstMains x s).presets = s.presets ∧ (firstMains x s).slots = s.slots ∧
    (firstMains x s).engine = s.engine ∧ (firstMains x s).settings = s.settings ∧
    (firstMains x s).store = s.store ∧ (firstMains x s).nv = s.nv ∧ (firstMains x s).pending = s.pending ∧
    (firstMains x s).draws = s.draws := by
  simp only [firstMains]
  simp

@[simp] theorem mainsRestore_keeps (x : Readings) (s : State) :
    (mainsRestore x s).protection = s.protection ∧ (mainsRestore x s).presets = s.presets ∧
    (mainsRestore x s).settings = s.settings ∧ (mainsRestore x s).pending = s.pending ∧
    (mainsRestore x s).draws = s.draws := by
  simp only [mainsRestore]
  (repeat' split) <;> simp

@[simp] theorem loaded_keeps (nv : Nonvolatile) (s : State) :
    (loaded nv s).nv = nv ∧ (loaded nv s).pending = s.pending ∧ (loaded nv s).draws = s.draws :=
  ⟨rfl, rfl, rfl⟩

@[simp] theorem coldStart_keeps (mains : Bool) (x : Readings) (failed : AreaFlags) (s : State) :
    (coldStart mains x failed s).nv = foundStore failed s ∧ (coldStart mains x failed s).pending = s.pending ∧
    (coldStart mains x failed s).draws = s.draws := by
  simp only [coldStart]
  (repeat' split) <;> simp

@[simp] theorem portsLineReset_keeps (s : State) :
    (portsLineReset s).transport = s.transport ∧ (portsLineReset s).protection = s.protection ∧
    (portsLineReset s).outputs = s.outputs ∧ (portsLineReset s).pins = s.pins ∧
    (portsLineReset s).position = s.position ∧ (portsLineReset s).reels = s.reels ∧
    (portsLineReset s).gauge = s.gauge ∧ (portsLineReset s).tuner = s.tuner ∧
    (portsLineReset s).presets = s.presets ∧ (portsLineReset s).slots = s.slots ∧
    (portsLineReset s).engine = s.engine ∧ (portsLineReset s).power = s.power ∧
    (portsLineReset s).settings = s.settings ∧ (portsLineReset s).store = s.store ∧
    (portsLineReset s).nv = s.nv ∧ (portsLineReset s).pending = s.pending ∧ (portsLineReset s).draws = s.draws := by
  simp only [portsLineReset]
  (repeat' split) <;> simp

@[simp] theorem protectionLineReset_keeps (s : State) :
    (protectionLineReset s).transport = s.transport ∧ (protectionLineReset s).outputs = s.outputs ∧
    (protectionLineReset s).pins = s.pins ∧ (protectionLineReset s).position = s.position ∧
    (protectionLineReset s).reels = s.reels ∧ (protectionLineReset s).gauge = s.gauge ∧
    (protectionLineReset s).clock = s.clock ∧ (protectionLineReset s).tuner = s.tuner ∧
    (protectionLineReset s).presets = s.presets ∧ (protectionLineReset s).receiver = s.receiver ∧
    (protectionLineReset s).slots = s.slots ∧ (protectionLineReset s).engine = s.engine ∧
    (protectionLineReset s).power = s.power ∧ (protectionLineReset s).settings = s.settings ∧
    (protectionLineReset s).store = s.store ∧ (protectionLineReset s).nv = s.nv ∧
    (protectionLineReset s).pending = s.pending ∧ (protectionLineReset s).draws = s.draws := by
  simp only [protectionLineReset]
  simp

@[simp] theorem blocksLineReset_keeps (s : State) :
    (blocksLineReset s).outputs = s.outputs ∧ (blocksLineReset s).pins = s.pins ∧
    (blocksLineReset s).tuner = s.tuner ∧ (blocksLineReset s).presets = s.presets ∧
    (blocksLineReset s).receiver = s.receiver ∧ (blocksLineReset s).slots = s.slots ∧
    (blocksLineReset s).engine = s.engine ∧ (blocksLineReset s).settings = s.settings ∧
    (blocksLineReset s).store = s.store ∧ (blocksLineReset s).nv = s.nv ∧
    (blocksLineReset s).pending = s.pending ∧ (blocksLineReset s).draws = s.draws := by
  simp only [blocksLineReset]
  simp

@[simp] theorem tunerLineReset_keeps (s : State) :
    (tunerLineReset s).transport = s.transport ∧ (tunerLineReset s).protection = s.protection ∧
    (tunerLineReset s).pins = s.pins ∧ (tunerLineReset s).position = s.position ∧
    (tunerLineReset s).reels = s.reels ∧ (tunerLineReset s).gauge = s.gauge ∧
    (tunerLineReset s).presets = s.presets ∧ (tunerLineReset s).slots = s.slots ∧
    (tunerLineReset s).engine = s.engine ∧ (tunerLineReset s).power = s.power ∧
    (tunerLineReset s).settings = s.settings ∧ (tunerLineReset s).store = s.store ∧
    (tunerLineReset s).nv = s.nv ∧ (tunerLineReset s).pending = s.pending ∧ (tunerLineReset s).draws = s.draws := by
  simp only [tunerLineReset]
  (repeat' split) <;> simp

@[simp] theorem lineReset_keeps (x : Readings) (s : State) :
    (lineReset x s).presets = s.presets ∧ (lineReset x s).settings = s.settings ∧ (lineReset x s).nv = s.nv ∧
    (lineReset x s).pending = s.pending ∧ (lineReset x s).draws = s.draws := by
  simp only [lineReset]
  (repeat' split) <;> simp

@[simp] theorem clearFaults_keeps (l : Link) (r : Rank) (s : State) :
    (clearFaults l r s).2.pins = s.pins ∧ (clearFaults l r s).2.presets = s.presets ∧
    (clearFaults l r s).2.slots = s.slots ∧ (clearFaults l r s).2.engine = s.engine ∧
    (clearFaults l r s).2.settings = s.settings ∧ (clearFaults l r s).2.store = s.store ∧
    (clearFaults l r s).2.nv = s.nv ∧ (clearFaults l r s).2.pending = s.pending ∧
    (clearFaults l r s).2.draws = s.draws := by
  simp only [clearFaults]
  (repeat' split) <;> simp

@[simp] theorem setMemoryStop_keeps (arg : Arg) (s : State) :
    (setMemoryStop arg s).2.transport = s.transport ∧ (setMemoryStop arg s).2.protection = s.protection ∧
    (setMemoryStop arg s).2.outputs = s.outputs ∧ (setMemoryStop arg s).2.pins = s.pins ∧
    (setMemoryStop arg s).2.reels = s.reels ∧ (setMemoryStop arg s).2.gauge = s.gauge ∧
    (setMemoryStop arg s).2.clock = s.clock ∧ (setMemoryStop arg s).2.tuner = s.tuner ∧
    (setMemoryStop arg s).2.presets = s.presets ∧ (setMemoryStop arg s).2.receiver = s.receiver ∧
    (setMemoryStop arg s).2.slots = s.slots ∧ (setMemoryStop arg s).2.engine = s.engine ∧
    (setMemoryStop arg s).2.power = s.power ∧ (setMemoryStop arg s).2.settings = s.settings ∧
    (setMemoryStop arg s).2.store = s.store ∧ (setMemoryStop arg s).2.nv = s.nv ∧
    (setMemoryStop arg s).2.ports = s.ports ∧ (setMemoryStop arg s).2.pending = s.pending ∧
    (setMemoryStop arg s).2.draws = s.draws := by
  simp only [setMemoryStop]
  (repeat' split) <;> simp

@[simp] theorem takeClass_keeps (n minutes : Nat) (s : State) :
    (takeClass n minutes s).transport = s.transport ∧ (takeClass n minutes s).protection = s.protection ∧
    (takeClass n minutes s).outputs = s.outputs ∧ (takeClass n minutes s).pins = s.pins ∧
    (takeClass n minutes s).position = s.position ∧ (takeClass n minutes s).reels = s.reels ∧
    (takeClass n minutes s).clock = s.clock ∧ (takeClass n minutes s).tuner = s.tuner ∧
    (takeClass n minutes s).presets = s.presets ∧ (takeClass n minutes s).receiver = s.receiver ∧
    (takeClass n minutes s).slots = s.slots ∧ (takeClass n minutes s).engine = s.engine ∧
    (takeClass n minutes s).power = s.power ∧ (takeClass n minutes s).settings = s.settings ∧
    (takeClass n minutes s).nv = s.nv ∧ (takeClass n minutes s).pending = s.pending ∧
    (takeClass n minutes s).draws = s.draws := by
  simp only [takeClass]
  (repeat' split) <;> simp

@[simp] theorem setCassetteClass_keeps (arg : Arg) (s : State) :
    (setCassetteClass arg s).2.transport = s.transport ∧ (setCassetteClass arg s).2.protection = s.protection ∧
    (setCassetteClass arg s).2.outputs = s.outputs ∧ (setCassetteClass arg s).2.pins = s.pins ∧
    (setCassetteClass arg s).2.position = s.position ∧ (setCassetteClass arg s).2.reels = s.reels ∧
    (setCassetteClass arg s).2.clock = s.clock ∧ (setCassetteClass arg s).2.tuner = s.tuner ∧
    (setCassetteClass arg s).2.presets = s.presets ∧ (setCassetteClass arg s).2.receiver = s.receiver ∧
    (setCassetteClass arg s).2.slots = s.slots ∧ (setCassetteClass arg s).2.engine = s.engine ∧
    (setCassetteClass arg s).2.power = s.power ∧ (setCassetteClass arg s).2.settings = s.settings ∧
    (setCassetteClass arg s).2.nv = s.nv ∧ (setCassetteClass arg s).2.pending = s.pending ∧
    (setCassetteClass arg s).2.draws = s.draws := by
  simp only [setCassetteClass]
  (repeat' split) <;> simp

@[simp] theorem selectPreset_keeps (l : Link) (r : Rank) (arg : Arg) (s : State) :
    (selectPreset l r arg s).2.transport = s.transport ∧ (selectPreset l r arg s).2.protection = s.protection ∧
    (selectPreset l r arg s).2.pins = s.pins ∧ (selectPreset l r arg s).2.position = s.position ∧
    (selectPreset l r arg s).2.reels = s.reels ∧ (selectPreset l r arg s).2.gauge = s.gauge ∧
    (selectPreset l r arg s).2.presets = s.presets ∧ (selectPreset l r arg s).2.slots = s.slots ∧
    (selectPreset l r arg s).2.engine = s.engine ∧ (selectPreset l r arg s).2.power = s.power ∧
    (selectPreset l r arg s).2.settings = s.settings ∧ (selectPreset l r arg s).2.store = s.store ∧
    (selectPreset l r arg s).2.nv = s.nv ∧ (selectPreset l r arg s).2.pending = s.pending ∧
    (selectPreset l r arg s).2.draws = s.draws := by
  simp only [selectPreset]
  (repeat' split) <;> simp

@[simp] theorem trimPreset_keeps (l : Link) (r : Rank) (k : Int) (n : Nat) (s : State) :
    (trimPreset l r k n s).2.transport = s.transport ∧ (trimPreset l r k n s).2.protection = s.protection ∧
    (trimPreset l r k n s).2.pins = s.pins ∧ (trimPreset l r k n s).2.position = s.position ∧
    (trimPreset l r k n s).2.reels = s.reels ∧ (trimPreset l r k n s).2.gauge = s.gauge ∧
    (trimPreset l r k n s).2.slots = s.slots ∧ (trimPreset l r k n s).2.engine = s.engine ∧
    (trimPreset l r k n s).2.power = s.power ∧ (trimPreset l r k n s).2.settings = s.settings ∧
    (trimPreset l r k n s).2.nv = s.nv ∧ (trimPreset l r k n s).2.pending = s.pending ∧
    (trimPreset l r k n s).2.draws = s.draws := by
  simp only [trimPreset]
  (repeat' split) <;> simp

@[simp] theorem tuneStep_keeps (l : Link) (r : Rank) (arg : Arg) (s : State) :
    (tuneStep l r arg s).2.transport = s.transport ∧ (tuneStep l r arg s).2.protection = s.protection ∧
    (tuneStep l r arg s).2.pins = s.pins ∧ (tuneStep l r arg s).2.position = s.position ∧
    (tuneStep l r arg s).2.reels = s.reels ∧ (tuneStep l r arg s).2.gauge = s.gauge ∧
    (tuneStep l r arg s).2.slots = s.slots ∧ (tuneStep l r arg s).2.engine = s.engine ∧
    (tuneStep l r arg s).2.power = s.power ∧ (tuneStep l r arg s).2.settings = s.settings ∧
    (tuneStep l r arg s).2.nv = s.nv ∧ (tuneStep l r arg s).2.pending = s.pending ∧
    (tuneStep l r arg s).2.draws = s.draws := by
  simp only [tuneStep]
  (repeat' split) <;> simp

@[simp] theorem stepTo_keeps (n : Nat) (s : State) :
    (stepTo n s).transport = s.transport ∧ (stepTo n s).protection = s.protection ∧
    (stepTo n s).pins = s.pins ∧ (stepTo n s).position = s.position ∧ (stepTo n s).reels = s.reels ∧
    (stepTo n s).gauge = s.gauge ∧ (stepTo n s).clock = s.clock ∧ (stepTo n s).presets = s.presets ∧
    (stepTo n s).receiver = s.receiver ∧ (stepTo n s).slots = s.slots ∧ (stepTo n s).engine = s.engine ∧
    (stepTo n s).power = s.power ∧ (stepTo n s).settings = s.settings ∧ (stepTo n s).store = s.store ∧
    (stepTo n s).nv = s.nv ∧ (stepTo n s).ports = s.ports ∧ (stepTo n s).pending = s.pending ∧
    (stepTo n s).draws = s.draws := by
  simp only [stepTo]
  simp

@[simp] theorem setStationSearch_keeps (x : StationSearch) (s : State) :
    (setStationSearch x s).transport = s.transport ∧ (setStationSearch x s).protection = s.protection ∧
    (setStationSearch x s).outputs = s.outputs ∧ (setStationSearch x s).pins = s.pins ∧
    (setStationSearch x s).position = s.position ∧ (setStationSearch x s).reels = s.reels ∧
    (setStationSearch x s).gauge = s.gauge ∧ (setStationSearch x s).clock = s.clock ∧
    (setStationSearch x s).presets = s.presets ∧ (setStationSearch x s).receiver = s.receiver ∧
    (setStationSearch x s).slots = s.slots ∧ (setStationSearch x s).engine = s.engine ∧
    (setStationSearch x s).power = s.power ∧ (setStationSearch x s).settings = s.settings ∧
    (setStationSearch x s).store = s.store ∧ (setStationSearch x s).nv = s.nv ∧
    (setStationSearch x s).ports = s.ports ∧ (setStationSearch x s).pending = s.pending ∧
    (setStationSearch x s).draws = s.draws := by
  simp only [setStationSearch]
  simp

@[simp] theorem beginStationSearch_keeps (x : StationSearch) (s : State) :
    (beginStationSearch x s).transport = s.transport ∧ (beginStationSearch x s).protection = s.protection ∧
    (beginStationSearch x s).pins = s.pins ∧ (beginStationSearch x s).position = s.position ∧
    (beginStationSearch x s).reels = s.reels ∧ (beginStationSearch x s).gauge = s.gauge ∧
    (beginStationSearch x s).presets = s.presets ∧ (beginStationSearch x s).slots = s.slots ∧
    (beginStationSearch x s).engine = s.engine ∧ (beginStationSearch x s).power = s.power ∧
    (beginStationSearch x s).settings = s.settings ∧ (beginStationSearch x s).store = s.store ∧
    (beginStationSearch x s).nv = s.nv ∧ (beginStationSearch x s).pending = s.pending ∧
    (beginStationSearch x s).draws = s.draws := by
  simp only [beginStationSearch]
  (repeat' split) <;> simp

@[simp] theorem searchStation_keeps (l : Link) (r : Rank) (arg : Arg) (s : State) :
    (searchStation l r arg s).2.transport = s.transport ∧
    (searchStation l r arg s).2.protection = s.protection ∧ (searchStation l r arg s).2.pins = s.pins ∧
    (searchStation l r arg s).2.position = s.position ∧ (searchStation l r arg s).2.reels = s.reels ∧
    (searchStation l r arg s).2.gauge = s.gauge ∧ (searchStation l r arg s).2.presets = s.presets ∧
    (searchStation l r arg s).2.slots = s.slots ∧ (searchStation l r arg s).2.engine = s.engine ∧
    (searchStation l r arg s).2.power = s.power ∧ (searchStation l r arg s).2.settings = s.settings ∧
    (searchStation l r arg s).2.store = s.store ∧ (searchStation l r arg s).2.nv = s.nv ∧
    (searchStation l r arg s).2.pending = s.pending ∧ (searchStation l r arg s).2.draws = s.draws := by
  simp only [searchStation]
  (repeat' split) <;> simp

@[simp] theorem searchStore_keeps (l : Link) (r : Rank) (arg : Arg) (s : State) :
    (searchStore l r arg s).2.transport = s.transport ∧ (searchStore l r arg s).2.protection = s.protection ∧
    (searchStore l r arg s).2.pins = s.pins ∧ (searchStore l r arg s).2.position = s.position ∧
    (searchStore l r arg s).2.reels = s.reels ∧ (searchStore l r arg s).2.gauge = s.gauge ∧
    (searchStore l r arg s).2.presets = s.presets ∧ (searchStore l r arg s).2.slots = s.slots ∧
    (searchStore l r arg s).2.engine = s.engine ∧ (searchStore l r arg s).2.power = s.power ∧
    (searchStore l r arg s).2.settings = s.settings ∧ (searchStore l r arg s).2.store = s.store ∧
    (searchStore l r arg s).2.nv = s.nv ∧ (searchStore l r arg s).2.pending = s.pending ∧
    (searchStore l r arg s).2.draws = s.draws := by
  simp only [searchStore]
  (repeat' split) <;> simp

@[simp] theorem putPresetWork_keeps (l : Link) (w : PresetWork) (s : State) :
    (putPresetWork l w s).transport = s.transport ∧ (putPresetWork l w s).protection = s.protection ∧
    (putPresetWork l w s).outputs = s.outputs ∧ (putPresetWork l w s).pins = s.pins ∧
    (putPresetWork l w s).position = s.position ∧ (putPresetWork l w s).reels = s.reels ∧
    (putPresetWork l w s).gauge = s.gauge ∧ (putPresetWork l w s).clock = s.clock ∧
    (putPresetWork l w s).tuner = s.tuner ∧ (putPresetWork l w s).presets = s.presets ∧
    (putPresetWork l w s).receiver = s.receiver ∧ (putPresetWork l w s).slots = s.slots ∧
    (putPresetWork l w s).engine = s.engine ∧ (putPresetWork l w s).power = s.power ∧
    (putPresetWork l w s).settings = s.settings ∧ (putPresetWork l w s).store = s.store ∧
    (putPresetWork l w s).nv = s.nv ∧ (putPresetWork l w s).pending = s.pending ∧
    (putPresetWork l w s).draws = s.draws := by
  simp only [putPresetWork]
  simp

@[simp] theorem fetchPreset_keeps (l : Link) (arg : Arg) (s : State) :
    (fetchPreset l arg s).2.transport = s.transport ∧ (fetchPreset l arg s).2.protection = s.protection ∧
    (fetchPreset l arg s).2.outputs = s.outputs ∧ (fetchPreset l arg s).2.pins = s.pins ∧
    (fetchPreset l arg s).2.position = s.position ∧ (fetchPreset l arg s).2.reels = s.reels ∧
    (fetchPreset l arg s).2.gauge = s.gauge ∧ (fetchPreset l arg s).2.clock = s.clock ∧
    (fetchPreset l arg s).2.tuner = s.tuner ∧ (fetchPreset l arg s).2.presets = s.presets ∧
    (fetchPreset l arg s).2.receiver = s.receiver ∧ (fetchPreset l arg s).2.slots = s.slots ∧
    (fetchPreset l arg s).2.engine = s.engine ∧ (fetchPreset l arg s).2.power = s.power ∧
    (fetchPreset l arg s).2.settings = s.settings ∧ (fetchPreset l arg s).2.store = s.store ∧
    (fetchPreset l arg s).2.nv = s.nv ∧ (fetchPreset l arg s).2.pending = s.pending ∧
    (fetchPreset l arg s).2.draws = s.draws := by
  simp only [fetchPreset]
  (repeat' split) <;> simp

@[simp] theorem storePreset_keeps (l : Link) (s : State) :
    (storePreset l s).2.transport = s.transport ∧ (storePreset l s).2.protection = s.protection ∧
    (storePreset l s).2.pins = s.pins ∧ (storePreset l s).2.position = s.position ∧
    (storePreset l s).2.reels = s.reels ∧ (storePreset l s).2.gauge = s.gauge ∧
    (storePreset l s).2.slots = s.slots ∧ (storePreset l s).2.engine = s.engine ∧
    (storePreset l s).2.power = s.power ∧ (storePreset l s).2.settings = s.settings ∧
    (storePreset l s).2.nv = s.nv ∧ (storePreset l s).2.pending = s.pending ∧
    (storePreset l s).2.draws = s.draws := by
  simp only [storePreset]
  (repeat' split) <;> simp

@[simp] theorem capture_keeps (l : Link) (field : Selector) (value : Value) (s : State) :
    (capture l field value s).2.transport = s.transport ∧
    (capture l field value s).2.protection = s.protection ∧ (capture l field value s).2.outputs = s.outputs ∧
    (capture l field value s).2.pins = s.pins ∧ (capture l field value s).2.position = s.position ∧
    (capture l field value s).2.reels = s.reels ∧ (capture l field value s).2.gauge = s.gauge ∧
    (capture l field value s).2.clock = s.clock ∧ (capture l field value s).2.tuner = s.tuner ∧
    (capture l field value s).2.presets = s.presets ∧ (capture l field value s).2.receiver = s.receiver ∧
    (capture l field value s).2.slots = s.slots ∧ (capture l field value s).2.engine = s.engine ∧
    (capture l field value s).2.power = s.power ∧ (capture l field value s).2.settings = s.settings ∧
    (capture l field value s).2.store = s.store ∧ (capture l field value s).2.nv = s.nv ∧
    (capture l field value s).2.pending = s.pending ∧ (capture l field value s).2.draws = s.draws := by
  simp only [capture]
  (repeat' split) <;> simp

@[simp] theorem writePresetWork_keeps (l : Link) (field : Selector) (value : Value) (s : State) :
    (writePresetWork l field value s).2.transport = s.transport ∧
    (writePresetWork l field value s).2.protection = s.protection ∧
    (writePresetWork l field value s).2.outputs = s.outputs ∧
    (writePresetWork l field value s).2.pins = s.pins ∧
    (writePresetWork l field value s).2.position = s.position ∧
    (writePresetWork l field value s).2.reels = s.reels ∧ (writePresetWork l field value s).2.gauge = s.gauge ∧
    (writePresetWork l field value s).2.clock = s.clock ∧ (writePresetWork l field value s).2.tuner = s.tuner ∧
    (writePresetWork l field value s).2.presets = s.presets ∧
    (writePresetWork l field value s).2.receiver = s.receiver ∧
    (writePresetWork l field value s).2.slots = s.slots ∧
    (writePresetWork l field value s).2.engine = s.engine ∧
    (writePresetWork l field value s).2.power = s.power ∧
    (writePresetWork l field value s).2.settings = s.settings ∧
    (writePresetWork l field value s).2.store = s.store ∧ (writePresetWork l field value s).2.nv = s.nv ∧
    (writePresetWork l field value s).2.pending = s.pending ∧
    (writePresetWork l field value s).2.draws = s.draws := by
  simp only [writePresetWork]
  (repeat' split) <;> simp

@[simp] theorem putEventWork_keeps (l : Link) (w : EventWork) (s : State) :
    (putEventWork l w s).transport = s.transport ∧ (putEventWork l w s).protection = s.protection ∧
    (putEventWork l w s).outputs = s.outputs ∧ (putEventWork l w s).pins = s.pins ∧
    (putEventWork l w s).position = s.position ∧ (putEventWork l w s).reels = s.reels ∧
    (putEventWork l w s).gauge = s.gauge ∧ (putEventWork l w s).clock = s.clock ∧
    (putEventWork l w s).tuner = s.tuner ∧ (putEventWork l w s).presets = s.presets ∧
    (putEventWork l w s).receiver = s.receiver ∧ (putEventWork l w s).slots = s.slots ∧
    (putEventWork l w s).engine = s.engine ∧ (putEventWork l w s).power = s.power ∧
    (putEventWork l w s).settings = s.settings ∧ (putEventWork l w s).store = s.store ∧
    (putEventWork l w s).nv = s.nv ∧ (putEventWork l w s).pending = s.pending ∧
    (putEventWork l w s).draws = s.draws := by
  simp only [putEventWork]
  simp

@[simp] theorem fetchEvent_keeps (l : Link) (arg : Arg) (s : State) :
    (fetchEvent l arg s).2.transport = s.transport ∧ (fetchEvent l arg s).2.protection = s.protection ∧
    (fetchEvent l arg s).2.outputs = s.outputs ∧ (fetchEvent l arg s).2.pins = s.pins ∧
    (fetchEvent l arg s).2.position = s.position ∧ (fetchEvent l arg s).2.reels = s.reels ∧
    (fetchEvent l arg s).2.gauge = s.gauge ∧ (fetchEvent l arg s).2.clock = s.clock ∧
    (fetchEvent l arg s).2.tuner = s.tuner ∧ (fetchEvent l arg s).2.presets = s.presets ∧
    (fetchEvent l arg s).2.receiver = s.receiver ∧ (fetchEvent l arg s).2.slots = s.slots ∧
    (fetchEvent l arg s).2.engine = s.engine ∧ (fetchEvent l arg s).2.power = s.power ∧
    (fetchEvent l arg s).2.settings = s.settings ∧ (fetchEvent l arg s).2.store = s.store ∧
    (fetchEvent l arg s).2.nv = s.nv ∧ (fetchEvent l arg s).2.pending = s.pending ∧
    (fetchEvent l arg s).2.draws = s.draws := by
  simp only [fetchEvent]
  (repeat' split) <;> simp

@[simp] theorem writeEventWork_keeps (l : Link) (field : Selector) (value : Value) (s : State) :
    (writeEventWork l field value s).2.transport = s.transport ∧
    (writeEventWork l field value s).2.protection = s.protection ∧
    (writeEventWork l field value s).2.outputs = s.outputs ∧ (writeEventWork l field value s).2.pins = s.pins ∧
    (writeEventWork l field value s).2.position = s.position ∧
    (writeEventWork l field value s).2.reels = s.reels ∧ (writeEventWork l field value s).2.gauge = s.gauge ∧
    (writeEventWork l field value s).2.clock = s.clock ∧ (writeEventWork l field value s).2.tuner = s.tuner ∧
    (writeEventWork l field value s).2.presets = s.presets ∧
    (writeEventWork l field value s).2.receiver = s.receiver ∧
    (writeEventWork l field value s).2.slots = s.slots ∧ (writeEventWork l field value s).2.engine = s.engine ∧
    (writeEventWork l field value s).2.power = s.power ∧
    (writeEventWork l field value s).2.settings = s.settings ∧
    (writeEventWork l field value s).2.store = s.store ∧ (writeEventWork l field value s).2.nv = s.nv ∧
    (writeEventWork l field value s).2.pending = s.pending ∧ (writeEventWork l field value s).2.draws = s.draws := by
  simp only [writeEventWork]
  (repeat' split) <;> simp

@[simp] theorem storeReply_snd (c : Bool) (v : Option Int) (s : State) : (storeReply c v s).2 = s := rfl

@[simp] theorem storeInto_keeps (l : Link) (r : Rank) (n : Nat) (e : EventDef) (s : State) :
    (storeInto l r n e s).2.protection = s.protection ∧ (storeInto l r n e s).2.pins = s.pins ∧
    (storeInto l r n e s).2.presets = s.presets ∧ (storeInto l r n e s).2.settings = s.settings ∧
    (storeInto l r n e s).2.nv = s.nv ∧ (storeInto l r n e s).2.pending = s.pending ∧
    (storeInto l r n e s).2.draws = s.draws := by
  simp only [storeInto]
  (repeat' split) <;> simp

@[simp] theorem storeEvent_keeps (l : Link) (r : Rank) (s : State) :
    (storeEvent l r s).2.protection = s.protection ∧ (storeEvent l r s).2.pins = s.pins ∧
    (storeEvent l r s).2.presets = s.presets ∧ (storeEvent l r s).2.settings = s.settings ∧
    (storeEvent l r s).2.nv = s.nv ∧ (storeEvent l r s).2.pending = s.pending ∧
    (storeEvent l r s).2.draws = s.draws := by
  simp only [storeEvent]
  (repeat' split) <;> simp

@[simp] theorem newEvent_keeps (l : Link) (r : Rank) (s : State) :
    (newEvent l r s).2.transport = s.transport ∧ (newEvent l r s).2.protection = s.protection ∧
    (newEvent l r s).2.outputs = s.outputs ∧ (newEvent l r s).2.pins = s.pins ∧
    (newEvent l r s).2.position = s.position ∧ (newEvent l r s).2.reels = s.reels ∧
    (newEvent l r s).2.gauge = s.gauge ∧ (newEvent l r s).2.clock = s.clock ∧
    (newEvent l r s).2.tuner = s.tuner ∧ (newEvent l r s).2.presets = s.presets ∧
    (newEvent l r s).2.receiver = s.receiver ∧ (newEvent l r s).2.power = s.power ∧
    (newEvent l r s).2.settings = s.settings ∧ (newEvent l r s).2.nv = s.nv ∧
    (newEvent l r s).2.pending = s.pending ∧ (newEvent l r s).2.draws = s.draws := by
  simp only [newEvent]
  (repeat' split) <;> simp

@[simp] theorem freeSlot_keeps (n : Nat) (s : State) :
    (freeSlot n s).protection = s.protection ∧ (freeSlot n s).pins = s.pins ∧ (freeSlot n s).clock = s.clock ∧
    (freeSlot n s).tuner = s.tuner ∧ (freeSlot n s).presets = s.presets ∧
    (freeSlot n s).receiver = s.receiver ∧ (freeSlot n s).power = s.power ∧
    (freeSlot n s).settings = s.settings ∧ (freeSlot n s).nv = s.nv ∧ (freeSlot n s).pending = s.pending ∧
    (freeSlot n s).draws = s.draws := by
  simp only [freeSlot]
  (repeat' split) <;> simp

@[simp] theorem deleteEvent_keeps (r : Rank) (arg : Arg) (s : State) :
    (deleteEvent r arg s).2.protection = s.protection ∧ (deleteEvent r arg s).2.pins = s.pins ∧
    (deleteEvent r arg s).2.clock = s.clock ∧ (deleteEvent r arg s).2.tuner = s.tuner ∧
    (deleteEvent r arg s).2.presets = s.presets ∧ (deleteEvent r arg s).2.receiver = s.receiver ∧
    (deleteEvent r arg s).2.power = s.power ∧ (deleteEvent r arg s).2.settings = s.settings ∧
    (deleteEvent r arg s).2.nv = s.nv ∧ (deleteEvent r arg s).2.pending = s.pending ∧
    (deleteEvent r arg s).2.draws = s.draws := by
  simp only [deleteEvent]
  (repeat' split) <;> simp

@[simp] theorem writeMask_keeps (l : Link) (sel : Selector) (value : Value) (s : State) :
    (writeMask l sel value s).2.transport = s.transport ∧
    (writeMask l sel value s).2.protection = s.protection ∧ (writeMask l sel value s).2.outputs = s.outputs ∧
    (writeMask l sel value s).2.pins = s.pins ∧ (writeMask l sel value s).2.position = s.position ∧
    (writeMask l sel value s).2.reels = s.reels ∧ (writeMask l sel value s).2.gauge = s.gauge ∧
    (writeMask l sel value s).2.clock = s.clock ∧ (writeMask l sel value s).2.tuner = s.tuner ∧
    (writeMask l sel value s).2.presets = s.presets ∧ (writeMask l sel value s).2.receiver = s.receiver ∧
    (writeMask l sel value s).2.slots = s.slots ∧ (writeMask l sel value s).2.engine = s.engine ∧
    (writeMask l sel value s).2.power = s.power ∧ (writeMask l sel value s).2.settings = s.settings ∧
    (writeMask l sel value s).2.store = s.store ∧ (writeMask l sel value s).2.nv = s.nv ∧
    (writeMask l sel value s).2.pending = s.pending ∧ (writeMask l sel value s).2.draws = s.draws := by
  simp only [writeMask]
  (repeat' split) <;> simp

@[simp] theorem takeKinds_keeps (l : Link) (selection : Arg) (s : State) :
    (takeKinds l selection s).2.transport = s.transport ∧
    (takeKinds l selection s).2.protection = s.protection ∧ (takeKinds l selection s).2.outputs = s.outputs ∧
    (takeKinds l selection s).2.pins = s.pins ∧ (takeKinds l selection s).2.position = s.position ∧
    (takeKinds l selection s).2.reels = s.reels ∧ (takeKinds l selection s).2.gauge = s.gauge ∧
    (takeKinds l selection s).2.clock = s.clock ∧ (takeKinds l selection s).2.tuner = s.tuner ∧
    (takeKinds l selection s).2.presets = s.presets ∧ (takeKinds l selection s).2.receiver = s.receiver ∧
    (takeKinds l selection s).2.slots = s.slots ∧ (takeKinds l selection s).2.engine = s.engine ∧
    (takeKinds l selection s).2.power = s.power ∧ (takeKinds l selection s).2.settings = s.settings ∧
    (takeKinds l selection s).2.store = s.store ∧ (takeKinds l selection s).2.nv = s.nv ∧
    (takeKinds l selection s).2.pending = s.pending ∧ (takeKinds l selection s).2.draws = s.draws := by
  simp only [takeKinds]
  (repeat' split) <;> simp

@[simp] theorem bufferPart_keeps (l : Link) (code : Code) (item : Value) (words : List Arg) (s : State) :
    (bufferPart l code item words s).2.transport = s.transport ∧
    (bufferPart l code item words s).2.protection = s.protection ∧
    (bufferPart l code item words s).2.outputs = s.outputs ∧ (bufferPart l code item words s).2.pins = s.pins ∧
    (bufferPart l code item words s).2.position = s.position ∧
    (bufferPart l code item words s).2.reels = s.reels ∧ (bufferPart l code item words s).2.gauge = s.gauge ∧
    (bufferPart l code item words s).2.clock = s.clock ∧ (bufferPart l code item words s).2.tuner = s.tuner ∧
    (bufferPart l code item words s).2.presets = s.presets ∧
    (bufferPart l code item words s).2.receiver = s.receiver ∧
    (bufferPart l code item words s).2.slots = s.slots ∧ (bufferPart l code item words s).2.engine = s.engine ∧
    (bufferPart l code item words s).2.power = s.power ∧
    (bufferPart l code item words s).2.settings = s.settings ∧
    (bufferPart l code item words s).2.store = s.store ∧ (bufferPart l code item words s).2.nv = s.nv ∧
    (bufferPart l code item words s).2.pending = s.pending ∧ (bufferPart l code item words s).2.draws = s.draws := by
  simp only [bufferPart]
  simp

@[simp] theorem readItem_keeps (l : Link) (code : Code) (item : Value) (part : Option (List Field)) (s : State) :
    (readItem l code item part s).2.transport = s.transport ∧
    (readItem l code item part s).2.protection = s.protection ∧
    (readItem l code item part s).2.outputs = s.outputs ∧ (readItem l code item part s).2.pins = s.pins ∧
    (readItem l code item part s).2.position = s.position ∧ (readItem l code item part s).2.reels = s.reels ∧
    (readItem l code item part s).2.gauge = s.gauge ∧ (readItem l code item part s).2.clock = s.clock ∧
    (readItem l code item part s).2.tuner = s.tuner ∧ (readItem l code item part s).2.presets = s.presets ∧
    (readItem l code item part s).2.receiver = s.receiver ∧ (readItem l code item part s).2.slots = s.slots ∧
    (readItem l code item part s).2.engine = s.engine ∧ (readItem l code item part s).2.power = s.power ∧
    (readItem l code item part s).2.settings = s.settings ∧ (readItem l code item part s).2.store = s.store ∧
    (readItem l code item part s).2.nv = s.nv ∧ (readItem l code item part s).2.pending = s.pending ∧
    (readItem l code item part s).2.draws = s.draws := by
  simp only [readItem]
  (repeat' split) <;> simp

@[simp] theorem nextWord_keeps (l : Link) (code : Code) (index : Selector) (item : Value) (s : State) :
    (nextWord l code index item s).2.transport = s.transport ∧
    (nextWord l code index item s).2.protection = s.protection ∧
    (nextWord l code index item s).2.outputs = s.outputs ∧ (nextWord l code index item s).2.pins = s.pins ∧
    (nextWord l code index item s).2.position = s.position ∧ (nextWord l code index item s).2.reels = s.reels ∧
    (nextWord l code index item s).2.gauge = s.gauge ∧ (nextWord l code index item s).2.clock = s.clock ∧
    (nextWord l code index item s).2.tuner = s.tuner ∧ (nextWord l code index item s).2.presets = s.presets ∧
    (nextWord l code index item s).2.receiver = s.receiver ∧ (nextWord l code index item s).2.slots = s.slots ∧
    (nextWord l code index item s).2.engine = s.engine ∧ (nextWord l code index item s).2.power = s.power ∧
    (nextWord l code index item s).2.settings = s.settings ∧ (nextWord l code index item s).2.store = s.store ∧
    (nextWord l code index item s).2.nv = s.nv ∧ (nextWord l code index item s).2.ports = s.ports ∧
    (nextWord l code index item s).2.pending = s.pending ∧ (nextWord l code index item s).2.draws = s.draws := by
  simp only [nextWord]
  (repeat' split) <;> simp

@[simp] theorem discardFrame_keeps (l : Link) (s : State) :
    (discardFrame l s).transport = s.transport ∧ (discardFrame l s).protection = s.protection ∧
    (discardFrame l s).outputs = s.outputs ∧ (discardFrame l s).pins = s.pins ∧
    (discardFrame l s).position = s.position ∧ (discardFrame l s).reels = s.reels ∧
    (discardFrame l s).gauge = s.gauge ∧ (discardFrame l s).clock = s.clock ∧
    (discardFrame l s).tuner = s.tuner ∧ (discardFrame l s).presets = s.presets ∧
    (discardFrame l s).receiver = s.receiver ∧ (discardFrame l s).slots = s.slots ∧
    (discardFrame l s).engine = s.engine ∧ (discardFrame l s).power = s.power ∧
    (discardFrame l s).settings = s.settings ∧ (discardFrame l s).pending = s.pending ∧
    (discardFrame l s).draws = s.draws := by
  simp only [discardFrame]
  (repeat' split) <;> simp

@[simp] theorem resetLink_keeps (l : Link) (s : State) :
    (resetLink l s).transport = s.transport ∧ (resetLink l s).protection = s.protection ∧
    (resetLink l s).outputs = s.outputs ∧ (resetLink l s).pins = s.pins ∧
    (resetLink l s).position = s.position ∧ (resetLink l s).reels = s.reels ∧ (resetLink l s).gauge = s.gauge ∧
    (resetLink l s).tuner = s.tuner ∧ (resetLink l s).presets = s.presets ∧ (resetLink l s).slots = s.slots ∧
    (resetLink l s).engine = s.engine ∧ (resetLink l s).power = s.power ∧
    (resetLink l s).settings = s.settings ∧ (resetLink l s).pending = s.pending ∧
    (resetLink l s).draws = s.draws := by
  simp only [resetLink]
  (repeat' split) <;> simp

@[simp] theorem readTime_keeps (l : Link) (s : State) :
    (readTime l s).2.transport = s.transport ∧ (readTime l s).2.protection = s.protection ∧
    (readTime l s).2.outputs = s.outputs ∧ (readTime l s).2.pins = s.pins ∧
    (readTime l s).2.position = s.position ∧ (readTime l s).2.reels = s.reels ∧
    (readTime l s).2.gauge = s.gauge ∧ (readTime l s).2.tuner = s.tuner ∧
    (readTime l s).2.presets = s.presets ∧ (readTime l s).2.receiver = s.receiver ∧
    (readTime l s).2.slots = s.slots ∧ (readTime l s).2.engine = s.engine ∧ (readTime l s).2.power = s.power ∧
    (readTime l s).2.settings = s.settings ∧ (readTime l s).2.store = s.store ∧ (readTime l s).2.nv = s.nv ∧
    (readTime l s).2.pending = s.pending ∧ (readTime l s).2.draws = s.draws := by
  simp only [readTime]
  simp

@[simp] theorem readDate_keeps (l : Link) (s : State) :
    (readDate l s).2.transport = s.transport ∧ (readDate l s).2.protection = s.protection ∧
    (readDate l s).2.outputs = s.outputs ∧ (readDate l s).2.pins = s.pins ∧
    (readDate l s).2.position = s.position ∧ (readDate l s).2.reels = s.reels ∧
    (readDate l s).2.gauge = s.gauge ∧ (readDate l s).2.tuner = s.tuner ∧
    (readDate l s).2.presets = s.presets ∧ (readDate l s).2.receiver = s.receiver ∧
    (readDate l s).2.slots = s.slots ∧ (readDate l s).2.engine = s.engine ∧ (readDate l s).2.power = s.power ∧
    (readDate l s).2.settings = s.settings ∧ (readDate l s).2.store = s.store ∧ (readDate l s).2.nv = s.nv ∧
    (readDate l s).2.pending = s.pending ∧ (readDate l s).2.draws = s.draws := by
  simp only [readDate]
  simp

@[simp] theorem setReadOut_keeps (l : Link) (p : Option Packet) (s : State) :
    (setReadOut l p s).transport = s.transport ∧ (setReadOut l p s).protection = s.protection ∧
    (setReadOut l p s).outputs = s.outputs ∧ (setReadOut l p s).pins = s.pins ∧
    (setReadOut l p s).position = s.position ∧ (setReadOut l p s).reels = s.reels ∧
    (setReadOut l p s).gauge = s.gauge ∧ (setReadOut l p s).clock = s.clock ∧
    (setReadOut l p s).tuner = s.tuner ∧ (setReadOut l p s).presets = s.presets ∧
    (setReadOut l p s).slots = s.slots ∧ (setReadOut l p s).engine = s.engine ∧
    (setReadOut l p s).power = s.power ∧ (setReadOut l p s).settings = s.settings ∧
    (setReadOut l p s).store = s.store ∧ (setReadOut l p s).nv = s.nv ∧ (setReadOut l p s).ports = s.ports ∧
    (setReadOut l p s).pending = s.pending ∧ (setReadOut l p s).draws = s.draws := by
  simp only [setReadOut]
  simp

@[simp] theorem readLabel_keeps (l : Link) (s : State) :
    (readLabel l s).2.transport = s.transport ∧ (readLabel l s).2.protection = s.protection ∧
    (readLabel l s).2.outputs = s.outputs ∧ (readLabel l s).2.pins = s.pins ∧
    (readLabel l s).2.position = s.position ∧ (readLabel l s).2.reels = s.reels ∧
    (readLabel l s).2.gauge = s.gauge ∧ (readLabel l s).2.clock = s.clock ∧ (readLabel l s).2.tuner = s.tuner ∧
    (readLabel l s).2.presets = s.presets ∧ (readLabel l s).2.slots = s.slots ∧
    (readLabel l s).2.engine = s.engine ∧ (readLabel l s).2.power = s.power ∧
    (readLabel l s).2.settings = s.settings ∧ (readLabel l s).2.store = s.store ∧ (readLabel l s).2.nv = s.nv ∧
    (readLabel l s).2.pending = s.pending ∧ (readLabel l s).2.draws = s.draws := by
  simp only [readLabel]
  simp

@[simp] theorem readLabelSecond_keeps (l : Link) (s : State) :
    (readLabelSecond l s).2.transport = s.transport ∧ (readLabelSecond l s).2.protection = s.protection ∧
    (readLabelSecond l s).2.outputs = s.outputs ∧ (readLabelSecond l s).2.pins = s.pins ∧
    (readLabelSecond l s).2.position = s.position ∧ (readLabelSecond l s).2.reels = s.reels ∧
    (readLabelSecond l s).2.gauge = s.gauge ∧ (readLabelSecond l s).2.clock = s.clock ∧
    (readLabelSecond l s).2.tuner = s.tuner ∧ (readLabelSecond l s).2.presets = s.presets ∧
    (readLabelSecond l s).2.slots = s.slots ∧ (readLabelSecond l s).2.engine = s.engine ∧
    (readLabelSecond l s).2.power = s.power ∧ (readLabelSecond l s).2.settings = s.settings ∧
    (readLabelSecond l s).2.store = s.store ∧ (readLabelSecond l s).2.nv = s.nv ∧
    (readLabelSecond l s).2.pending = s.pending ∧ (readLabelSecond l s).2.draws = s.draws := by
  simp only [readLabelSecond]
  simp

@[simp] theorem linkStatus_keeps (l : Link) (item : Value) (s : State) :
    (linkStatus l item s).2.transport = s.transport ∧ (linkStatus l item s).2.protection = s.protection ∧
    (linkStatus l item s).2.outputs = s.outputs ∧ (linkStatus l item s).2.pins = s.pins ∧
    (linkStatus l item s).2.position = s.position ∧ (linkStatus l item s).2.reels = s.reels ∧
    (linkStatus l item s).2.gauge = s.gauge ∧ (linkStatus l item s).2.clock = s.clock ∧
    (linkStatus l item s).2.tuner = s.tuner ∧ (linkStatus l item s).2.presets = s.presets ∧
    (linkStatus l item s).2.receiver = s.receiver ∧ (linkStatus l item s).2.slots = s.slots ∧
    (linkStatus l item s).2.engine = s.engine ∧ (linkStatus l item s).2.power = s.power ∧
    (linkStatus l item s).2.settings = s.settings ∧ (linkStatus l item s).2.store = s.store ∧
    (linkStatus l item s).2.nv = s.nv ∧ (linkStatus l item s).2.pending = s.pending ∧
    (linkStatus l item s).2.draws = s.draws := by
  simp only [linkStatus]
  simp

@[simp] theorem beginInsertion_keeps (s : State) :
    (beginInsertion s).protection = s.protection ∧ (beginInsertion s).pins = s.pins ∧
    (beginInsertion s).presets = s.presets ∧ (beginInsertion s).slots = s.slots ∧
    (beginInsertion s).engine = s.engine ∧ (beginInsertion s).settings = s.settings ∧
    (beginInsertion s).store = s.store ∧ (beginInsertion s).nv = s.nv ∧
    (beginInsertion s).pending = s.pending ∧ (beginInsertion s).draws = s.draws := by
  simp only [beginInsertion]
  (repeat' split) <;> simp

@[simp] theorem cassetteCloses_keeps (s : State) :
    (cassetteCloses s).protection = s.protection ∧ (cassetteCloses s).presets = s.presets ∧
    (cassetteCloses s).slots = s.slots ∧ (cassetteCloses s).engine = s.engine ∧
    (cassetteCloses s).settings = s.settings ∧ (cassetteCloses s).store = s.store ∧
    (cassetteCloses s).nv = s.nv ∧ (cassetteCloses s).pending = s.pending ∧ (cassetteCloses s).draws = s.draws := by
  simp only [cassetteCloses]
  (repeat' split) <;> simp

@[simp] theorem abandonInsertion_keeps (s : State) :
    (abandonInsertion s).protection = s.protection ∧ (abandonInsertion s).pins = s.pins ∧
    (abandonInsertion s).clock = s.clock ∧ (abandonInsertion s).tuner = s.tuner ∧
    (abandonInsertion s).presets = s.presets ∧ (abandonInsertion s).receiver = s.receiver ∧
    (abandonInsertion s).slots = s.slots ∧ (abandonInsertion s).engine = s.engine ∧
    (abandonInsertion s).power = s.power ∧ (abandonInsertion s).settings = s.settings ∧
    (abandonInsertion s).store = s.store ∧ (abandonInsertion s).nv = s.nv ∧
    (abandonInsertion s).pending = s.pending ∧ (abandonInsertion s).draws = s.draws := by
  simp only [abandonInsertion]
  simp

@[simp] theorem completeEjection_keeps (s : State) :
    (completeEjection s).protection = s.protection ∧ (completeEjection s).pins = s.pins ∧
    (completeEjection s).clock = s.clock ∧ (completeEjection s).tuner = s.tuner ∧
    (completeEjection s).presets = s.presets ∧ (completeEjection s).receiver = s.receiver ∧
    (completeEjection s).slots = s.slots ∧ (completeEjection s).engine = s.engine ∧
    (completeEjection s).power = s.power ∧ (completeEjection s).settings = s.settings ∧
    (completeEjection s).store = s.store ∧ (completeEjection s).nv = s.nv ∧
    (completeEjection s).pending = s.pending ∧ (completeEjection s).draws = s.draws := by
  simp only [completeEjection]
  simp

@[simp] theorem cassetteOpens_keeps (s : State) :
    (cassetteOpens s).protection = s.protection ∧ (cassetteOpens s).clock = s.clock ∧
    (cassetteOpens s).tuner = s.tuner ∧ (cassetteOpens s).presets = s.presets ∧
    (cassetteOpens s).receiver = s.receiver ∧ (cassetteOpens s).slots = s.slots ∧
    (cassetteOpens s).engine = s.engine ∧ (cassetteOpens s).power = s.power ∧
    (cassetteOpens s).settings = s.settings ∧ (cassetteOpens s).store = s.store ∧ (cassetteOpens s).nv = s.nv ∧
    (cassetteOpens s).pending = s.pending ∧ (cassetteOpens s).draws = s.draws := by
  simp only [cassetteOpens]
  (repeat' split) <;> simp

@[simp] theorem autoPlay_keeps (s : State) :
    (autoPlay s).protection = s.protection ∧ (autoPlay s).pins = s.pins ∧ (autoPlay s).clock = s.clock ∧
    (autoPlay s).tuner = s.tuner ∧ (autoPlay s).presets = s.presets ∧ (autoPlay s).receiver = s.receiver ∧
    (autoPlay s).slots = s.slots ∧ (autoPlay s).engine = s.engine ∧ (autoPlay s).power = s.power ∧
    (autoPlay s).settings = s.settings ∧ (autoPlay s).store = s.store ∧ (autoPlay s).nv = s.nv ∧
    (autoPlay s).pending = s.pending ∧ (autoPlay s).draws = s.draws := by
  simp only [autoPlay]
  (repeat' split) <;> simp

theorem thenParked_keeps (carryOut : State → State) (s : State)
    (h : ∀ u, (carryOut u).protection = u.protection ∧ (carryOut u).pins = u.pins ∧ (carryOut u).presets = u.presets ∧
      (carryOut u).slots = u.slots ∧ (carryOut u).engine = u.engine ∧ (carryOut u).settings = u.settings ∧
      (carryOut u).store = u.store ∧ (carryOut u).nv = u.nv ∧ (carryOut u).pending = u.pending ∧
      (carryOut u).draws = u.draws) :
    (thenParked carryOut s).protection = s.protection ∧ (thenParked carryOut s).pins = s.pins ∧
    (thenParked carryOut s).presets = s.presets ∧ (thenParked carryOut s).slots = s.slots ∧
    (thenParked carryOut s).engine = s.engine ∧ (thenParked carryOut s).settings = s.settings ∧
    (thenParked carryOut s).store = s.store ∧ (thenParked carryOut s).nv = s.nv ∧
    (thenParked carryOut s).pending = s.pending ∧ (thenParked carryOut s).draws = s.draws := by
  simp only [thenParked]
  split <;> simp [h]

@[simp] theorem completeInsertion_keeps (tabPresent : Bool) (s : State) :
    (completeInsertion tabPresent s).protection = s.protection ∧
    (completeInsertion tabPresent s).pins = s.pins ∧ (completeInsertion tabPresent s).presets = s.presets ∧
    (completeInsertion tabPresent s).slots = s.slots ∧ (completeInsertion tabPresent s).engine = s.engine ∧
    (completeInsertion tabPresent s).settings = s.settings ∧
    (completeInsertion tabPresent s).store = s.store ∧ (completeInsertion tabPresent s).nv = s.nv ∧
    (completeInsertion tabPresent s).pending = s.pending ∧ (completeInsertion tabPresent s).draws = s.draws := by
  simp only [completeInsertion]
  split <;> simp [thenParked_keeps carryOutParked _ (by simp), thenParked_keeps autoPlay _ (by simp)]

@[simp] theorem completeUnthreading_keeps (s : State) :
    (completeUnthreading s).protection = s.protection ∧ (completeUnthreading s).pins = s.pins ∧
    (completeUnthreading s).presets = s.presets ∧ (completeUnthreading s).slots = s.slots ∧
    (completeUnthreading s).engine = s.engine ∧ (completeUnthreading s).settings = s.settings ∧
    (completeUnthreading s).store = s.store ∧ (completeUnthreading s).nv = s.nv ∧
    (completeUnthreading s).pending = s.pending ∧ (completeUnthreading s).draws = s.draws := by
  simp only [completeUnthreading]
  simp [thenParked_keeps carryOutParked _ (by simp)]

@[simp] theorem retryMotion_keeps (m : MotionTimer) (d : MotorDrive) (s : State) :
    (retryMotion m d s).protection = s.protection ∧ (retryMotion m d s).pins = s.pins ∧
    (retryMotion m d s).position = s.position ∧ (retryMotion m d s).reels = s.reels ∧
    (retryMotion m d s).gauge = s.gauge ∧ (retryMotion m d s).clock = s.clock ∧
    (retryMotion m d s).tuner = s.tuner ∧ (retryMotion m d s).presets = s.presets ∧
    (retryMotion m d s).receiver = s.receiver ∧ (retryMotion m d s).slots = s.slots ∧
    (retryMotion m d s).engine = s.engine ∧ (retryMotion m d s).power = s.power ∧
    (retryMotion m d s).settings = s.settings ∧ (retryMotion m d s).store = s.store ∧
    (retryMotion m d s).nv = s.nv ∧ (retryMotion m d s).ports = s.ports ∧
    (retryMotion m d s).pending = s.pending ∧ (retryMotion m d s).draws = s.draws := by
  simp only [retryMotion]
  simp

@[simp] theorem parkedCloses_keeps (tabPresent : Bool) (s : State) :
    (parkedCloses tabPresent s).protection = s.protection ∧ (parkedCloses tabPresent s).pins = s.pins ∧
    (parkedCloses tabPresent s).presets = s.presets ∧ (parkedCloses tabPresent s).slots = s.slots ∧
    (parkedCloses tabPresent s).engine = s.engine ∧ (parkedCloses tabPresent s).settings = s.settings ∧
    (parkedCloses tabPresent s).store = s.store ∧ (parkedCloses tabPresent s).nv = s.nv ∧
    (parkedCloses tabPresent s).pending = s.pending ∧ (parkedCloses tabPresent s).draws = s.draws := by
  simp only [parkedCloses]
  (repeat' split) <;> simp

@[simp] theorem threadedCloses_keeps (s : State) :
    (threadedCloses s).protection = s.protection ∧ (threadedCloses s).pins = s.pins ∧
    (threadedCloses s).clock = s.clock ∧ (threadedCloses s).tuner = s.tuner ∧
    (threadedCloses s).presets = s.presets ∧ (threadedCloses s).receiver = s.receiver ∧
    (threadedCloses s).slots = s.slots ∧ (threadedCloses s).engine = s.engine ∧
    (threadedCloses s).power = s.power ∧ (threadedCloses s).settings = s.settings ∧
    (threadedCloses s).store = s.store ∧ (threadedCloses s).nv = s.nv ∧
    (threadedCloses s).pending = s.pending ∧ (threadedCloses s).draws = s.draws := by
  simp only [threadedCloses]
  (repeat' split) <;> simp

@[simp] theorem jam_keeps (k : FaultKind) (s : State) :
    (jam k s).pins = s.pins ∧ (jam k s).clock = s.clock ∧ (jam k s).tuner = s.tuner ∧
    (jam k s).presets = s.presets ∧ (jam k s).receiver = s.receiver ∧ (jam k s).power = s.power ∧
    (jam k s).settings = s.settings ∧ (jam k s).nv = s.nv ∧ (jam k s).pending = s.pending ∧
    (jam k s).draws = s.draws := by
  simp only [jam]
  simp

@[simp] theorem insertTimedOut_keeps (s : State) :
    (insertTimedOut s).protection = s.protection ∧ (insertTimedOut s).pins = s.pins ∧
    (insertTimedOut s).clock = s.clock ∧ (insertTimedOut s).tuner = s.tuner ∧
    (insertTimedOut s).presets = s.presets ∧ (insertTimedOut s).receiver = s.receiver ∧
    (insertTimedOut s).slots = s.slots ∧ (insertTimedOut s).engine = s.engine ∧
    (insertTimedOut s).power = s.power ∧ (insertTimedOut s).settings = s.settings ∧
    (insertTimedOut s).store = s.store ∧ (insertTimedOut s).nv = s.nv ∧
    (insertTimedOut s).pending = s.pending ∧ (insertTimedOut s).draws = s.draws := by
  simp only [insertTimedOut]
  (repeat' split) <;> simp

@[simp] theorem threadTimedOut_keeps (s : State) :
    (threadTimedOut s).pins = s.pins ∧ (threadTimedOut s).clock = s.clock ∧
    (threadTimedOut s).tuner = s.tuner ∧ (threadTimedOut s).presets = s.presets ∧
    (threadTimedOut s).receiver = s.receiver ∧ (threadTimedOut s).power = s.power ∧
    (threadTimedOut s).settings = s.settings ∧ (threadTimedOut s).nv = s.nv ∧
    (threadTimedOut s).pending = s.pending ∧ (threadTimedOut s).draws = s.draws := by
  simp only [threadTimedOut]
  (repeat' split) <;> simp

@[simp] theorem retryDelayEnds_keeps (s : State) :
    (retryDelayEnds s).protection = s.protection ∧ (retryDelayEnds s).pins = s.pins ∧
    (retryDelayEnds s).position = s.position ∧ (retryDelayEnds s).reels = s.reels ∧
    (retryDelayEnds s).gauge = s.gauge ∧ (retryDelayEnds s).clock = s.clock ∧
    (retryDelayEnds s).tuner = s.tuner ∧ (retryDelayEnds s).presets = s.presets ∧
    (retryDelayEnds s).receiver = s.receiver ∧ (retryDelayEnds s).slots = s.slots ∧
    (retryDelayEnds s).engine = s.engine ∧ (retryDelayEnds s).power = s.power ∧
    (retryDelayEnds s).settings = s.settings ∧ (retryDelayEnds s).store = s.store ∧
    (retryDelayEnds s).nv = s.nv ∧ (retryDelayEnds s).ports = s.ports ∧
    (retryDelayEnds s).pending = s.pending ∧ (retryDelayEnds s).draws = s.draws := by
  simp only [retryDelayEnds]
  (repeat' split) <;> simp

@[simp] theorem unthreadTimedOut_keeps (s : State) :
    (unthreadTimedOut s).pins = s.pins ∧ (unthreadTimedOut s).clock = s.clock ∧
    (unthreadTimedOut s).tuner = s.tuner ∧ (unthreadTimedOut s).presets = s.presets ∧
    (unthreadTimedOut s).receiver = s.receiver ∧ (unthreadTimedOut s).power = s.power ∧
    (unthreadTimedOut s).settings = s.settings ∧ (unthreadTimedOut s).nv = s.nv ∧
    (unthreadTimedOut s).pending = s.pending ∧ (unthreadTimedOut s).draws = s.draws := by
  simp only [unthreadTimedOut]
  (repeat' split) <;> simp

@[simp] theorem ejectTimedOut_keeps (s : State) :
    (ejectTimedOut s).pins = s.pins ∧ (ejectTimedOut s).clock = s.clock ∧ (ejectTimedOut s).tuner = s.tuner ∧
    (ejectTimedOut s).presets = s.presets ∧ (ejectTimedOut s).receiver = s.receiver ∧
    (ejectTimedOut s).power = s.power ∧ (ejectTimedOut s).settings = s.settings ∧ (ejectTimedOut s).nv = s.nv ∧
    (ejectTimedOut s).pending = s.pending ∧ (ejectTimedOut s).draws = s.draws := by
  simp only [ejectTimedOut]
  (repeat' split) <;> simp

@[simp] theorem stillLimitExpires_keeps (s : State) :
    (stillLimitExpires s).protection = s.protection ∧ (stillLimitExpires s).pins = s.pins ∧
    (stillLimitExpires s).clock = s.clock ∧ (stillLimitExpires s).tuner = s.tuner ∧
    (stillLimitExpires s).presets = s.presets ∧ (stillLimitExpires s).receiver = s.receiver ∧
    (stillLimitExpires s).slots = s.slots ∧ (stillLimitExpires s).engine = s.engine ∧
    (stillLimitExpires s).power = s.power ∧ (stillLimitExpires s).settings = s.settings ∧
    (stillLimitExpires s).store = s.store ∧ (stillLimitExpires s).nv = s.nv ∧
    (stillLimitExpires s).pending = s.pending ∧ (stillLimitExpires s).draws = s.draws := by
  simp only [stillLimitExpires]
  (repeat' split) <;> simp

@[simp] theorem recPauseLimitExpires_keeps (s : State) :
    (recPauseLimitExpires s).protection = s.protection ∧ (recPauseLimitExpires s).pins = s.pins ∧
    (recPauseLimitExpires s).clock = s.clock ∧ (recPauseLimitExpires s).tuner = s.tuner ∧
    (recPauseLimitExpires s).presets = s.presets ∧ (recPauseLimitExpires s).receiver = s.receiver ∧
    (recPauseLimitExpires s).slots = s.slots ∧ (recPauseLimitExpires s).power = s.power ∧
    (recPauseLimitExpires s).settings = s.settings ∧ (recPauseLimitExpires s).store = s.store ∧
    (recPauseLimitExpires s).nv = s.nv ∧ (recPauseLimitExpires s).pending = s.pending ∧
    (recPauseLimitExpires s).draws = s.draws := by
  simp only [recPauseLimitExpires]
  (repeat' split) <;> simp

@[simp] theorem stopLimitExpires_keeps (s : State) :
    (stopLimitExpires s).protection = s.protection ∧ (stopLimitExpires s).pins = s.pins ∧
    (stopLimitExpires s).clock = s.clock ∧ (stopLimitExpires s).tuner = s.tuner ∧
    (stopLimitExpires s).presets = s.presets ∧ (stopLimitExpires s).receiver = s.receiver ∧
    (stopLimitExpires s).slots = s.slots ∧ (stopLimitExpires s).engine = s.engine ∧
    (stopLimitExpires s).power = s.power ∧ (stopLimitExpires s).settings = s.settings ∧
    (stopLimitExpires s).store = s.store ∧ (stopLimitExpires s).nv = s.nv ∧
    (stopLimitExpires s).pending = s.pending ∧ (stopLimitExpires s).draws = s.draws := by
  simp only [stopLimitExpires]
  (repeat' split) <;> simp

@[simp] theorem oneTouchEnds_keeps (s : State) :
    (oneTouchEnds s).protection = s.protection ∧ (oneTouchEnds s).pins = s.pins ∧
    (oneTouchEnds s).clock = s.clock ∧ (oneTouchEnds s).tuner = s.tuner ∧
    (oneTouchEnds s).presets = s.presets ∧ (oneTouchEnds s).receiver = s.receiver ∧
    (oneTouchEnds s).slots = s.slots ∧ (oneTouchEnds s).engine = s.engine ∧ (oneTouchEnds s).power = s.power ∧
    (oneTouchEnds s).settings = s.settings ∧ (oneTouchEnds s).store = s.store ∧ (oneTouchEnds s).nv = s.nv ∧
    (oneTouchEnds s).pending = s.pending ∧ (oneTouchEnds s).draws = s.draws := by
  simp only [oneTouchEnds]
  (repeat' split) <;> simp

@[simp] theorem protect_keeps (k : FaultKind) (s : State) :
    (protect k s).pins = s.pins ∧ (protect k s).clock = s.clock ∧ (protect k s).tuner = s.tuner ∧
    (protect k s).presets = s.presets ∧ (protect k s).receiver = s.receiver ∧ (protect k s).power = s.power ∧
    (protect k s).settings = s.settings ∧ (protect k s).nv = s.nv ∧ (protect k s).pending = s.pending ∧
    (protect k s).draws = s.draws := by
  simp only [protect]
  split <;> simp

@[simp] theorem drumSpinUpExpires_keeps (s : State) :
    (drumSpinUpExpires s).pins = s.pins ∧ (drumSpinUpExpires s).clock = s.clock ∧
    (drumSpinUpExpires s).tuner = s.tuner ∧ (drumSpinUpExpires s).presets = s.presets ∧
    (drumSpinUpExpires s).receiver = s.receiver ∧ (drumSpinUpExpires s).power = s.power ∧
    (drumSpinUpExpires s).settings = s.settings ∧ (drumSpinUpExpires s).nv = s.nv ∧
    (drumSpinUpExpires s).pending = s.pending ∧ (drumSpinUpExpires s).draws = s.draws := by
  simp only [drumSpinUpExpires]
  (repeat' split) <;> simp

@[simp] theorem drumLostExpires_keeps (s : State) :
    (drumLostExpires s).pins = s.pins ∧ (drumLostExpires s).clock = s.clock ∧
    (drumLostExpires s).tuner = s.tuner ∧ (drumLostExpires s).presets = s.presets ∧
    (drumLostExpires s).receiver = s.receiver ∧ (drumLostExpires s).power = s.power ∧
    (drumLostExpires s).settings = s.settings ∧ (drumLostExpires s).nv = s.nv ∧
    (drumLostExpires s).pending = s.pending ∧ (drumLostExpires s).draws = s.draws := by
  simp only [drumLostExpires]
  (repeat' split) <;> simp

@[simp] theorem drumLockChanges_keeps (present : Bool) (s : State) :
    (drumLockChanges present s).protection = s.protection ∧ (drumLockChanges present s).outputs = s.outputs ∧
    (drumLockChanges present s).position = s.position ∧ (drumLockChanges present s).reels = s.reels ∧
    (drumLockChanges present s).gauge = s.gauge ∧ (drumLockChanges present s).clock = s.clock ∧
    (drumLockChanges present s).tuner = s.tuner ∧ (drumLockChanges present s).presets = s.presets ∧
    (drumLockChanges present s).receiver = s.receiver ∧ (drumLockChanges present s).slots = s.slots ∧
    (drumLockChanges present s).engine = s.engine ∧ (drumLockChanges present s).power = s.power ∧
    (drumLockChanges present s).settings = s.settings ∧ (drumLockChanges present s).store = s.store ∧
    (drumLockChanges present s).nv = s.nv ∧ (drumLockChanges present s).ports = s.ports ∧
    (drumLockChanges present s).pending = s.pending ∧ (drumLockChanges present s).draws = s.draws := by
  simp only [drumLockChanges]
  simp

@[simp] theorem changeSpeed_keeps (v : Speed) (s : State) :
    (changeSpeed v s).protection = s.protection ∧ (changeSpeed v s).pins = s.pins ∧
    (changeSpeed v s).position = s.position ∧ (changeSpeed v s).gauge = s.gauge ∧
    (changeSpeed v s).clock = s.clock ∧ (changeSpeed v s).tuner = s.tuner ∧
    (changeSpeed v s).presets = s.presets ∧ (changeSpeed v s).receiver = s.receiver ∧
    (changeSpeed v s).slots = s.slots ∧ (changeSpeed v s).engine = s.engine ∧
    (changeSpeed v s).power = s.power ∧ (changeSpeed v s).settings = s.settings ∧
    (changeSpeed v s).store = s.store ∧ (changeSpeed v s).nv = s.nv ∧ (changeSpeed v s).ports = s.ports ∧
    (changeSpeed v s).pending = s.pending ∧ (changeSpeed v s).draws = s.draws := by
  simp only [changeSpeed]
  (repeat' split) <;> simp

@[simp] theorem speedSenseChanges_keeps (code : SpeedCode) (s : State) :
    (speedSenseChanges code s).protection = s.protection ∧ (speedSenseChanges code s).position = s.position ∧
    (speedSenseChanges code s).gauge = s.gauge ∧ (speedSenseChanges code s).clock = s.clock ∧
    (speedSenseChanges code s).tuner = s.tuner ∧ (speedSenseChanges code s).presets = s.presets ∧
    (speedSenseChanges code s).receiver = s.receiver ∧ (speedSenseChanges code s).slots = s.slots ∧
    (speedSenseChanges code s).engine = s.engine ∧ (speedSenseChanges code s).power = s.power ∧
    (speedSenseChanges code s).settings = s.settings ∧ (speedSenseChanges code s).store = s.store ∧
    (speedSenseChanges code s).nv = s.nv ∧ (speedSenseChanges code s).ports = s.ports ∧
    (speedSenseChanges code s).pending = s.pending ∧ (speedSenseChanges code s).draws = s.draws := by
  simp only [speedSenseChanges]
  (repeat' split) <;> simp

@[simp] theorem reachEdge_keeps (s : State) :
    (reachEdge s).protection = s.protection ∧ (reachEdge s).pins = s.pins ∧ (reachEdge s).clock = s.clock ∧
    (reachEdge s).tuner = s.tuner ∧ (reachEdge s).presets = s.presets ∧ (reachEdge s).receiver = s.receiver ∧
    (reachEdge s).slots = s.slots ∧ (reachEdge s).engine = s.engine ∧ (reachEdge s).power = s.power ∧
    (reachEdge s).settings = s.settings ∧ (reachEdge s).store = s.store ∧ (reachEdge s).nv = s.nv ∧
    (reachEdge s).pending = s.pending ∧ (reachEdge s).draws = s.draws := by
  simp only [reachEdge]
  simp

@[simp] theorem autoRewind_keeps (s : State) :
    (autoRewind s).protection = s.protection ∧ (autoRewind s).pins = s.pins ∧ (autoRewind s).clock = s.clock ∧
    (autoRewind s).tuner = s.tuner ∧ (autoRewind s).presets = s.presets ∧
    (autoRewind s).receiver = s.receiver ∧ (autoRewind s).slots = s.slots ∧ (autoRewind s).engine = s.engine ∧
    (autoRewind s).power = s.power ∧ (autoRewind s).settings = s.settings ∧ (autoRewind s).store = s.store ∧
    (autoRewind s).nv = s.nv ∧ (autoRewind s).pending = s.pending ∧ (autoRewind s).draws = s.draws := by
  simp only [autoRewind]
  (repeat' split) <;> simp

@[simp] theorem endReached_keeps (s : State) :
    (endReached s).protection = s.protection ∧ (endReached s).pins = s.pins ∧ (endReached s).clock = s.clock ∧
    (endReached s).tuner = s.tuner ∧ (endReached s).presets = s.presets ∧
    (endReached s).receiver = s.receiver ∧ (endReached s).power = s.power ∧
    (endReached s).settings = s.settings ∧ (endReached s).nv = s.nv ∧ (endReached s).pending = s.pending ∧
    (endReached s).draws = s.draws := by
  simp only [endReached]
  (repeat' split) <;> simp

@[simp] theorem tapeEndBecomes_keeps (active : Bool) (s : State) :
    (tapeEndBecomes active s).protection = s.protection ∧ (tapeEndBecomes active s).clock = s.clock ∧
    (tapeEndBecomes active s).tuner = s.tuner ∧ (tapeEndBecomes active s).presets = s.presets ∧
    (tapeEndBecomes active s).receiver = s.receiver ∧ (tapeEndBecomes active s).power = s.power ∧
    (tapeEndBecomes active s).settings = s.settings ∧ (tapeEndBecomes active s).nv = s.nv ∧
    (tapeEndBecomes active s).pending = s.pending ∧ (tapeEndBecomes active s).draws = s.draws := by
  simp only [tapeEndBecomes]
  (repeat' split) <;> simp

@[simp] theorem tapeStartBecomes_keeps (active : Bool) (s : State) :
    (tapeStartBecomes active s).protection = s.protection ∧ (tapeStartBecomes active s).clock = s.clock ∧
    (tapeStartBecomes active s).tuner = s.tuner ∧ (tapeStartBecomes active s).presets = s.presets ∧
    (tapeStartBecomes active s).receiver = s.receiver ∧ (tapeStartBecomes active s).slots = s.slots ∧
    (tapeStartBecomes active s).engine = s.engine ∧ (tapeStartBecomes active s).power = s.power ∧
    (tapeStartBecomes active s).settings = s.settings ∧ (tapeStartBecomes active s).store = s.store ∧
    (tapeStartBecomes active s).nv = s.nv ∧ (tapeStartBecomes active s).pending = s.pending ∧
    (tapeStartBecomes active s).draws = s.draws := by
  simp only [tapeStartBecomes]
  (repeat' split) <;> simp

@[simp] theorem windLoadTick_keeps (s : State) :
    (windLoadTick s).pins = s.pins ∧ (windLoadTick s).clock = s.clock ∧ (windLoadTick s).tuner = s.tuner ∧
    (windLoadTick s).presets = s.presets ∧ (windLoadTick s).receiver = s.receiver ∧
    (windLoadTick s).slots = s.slots ∧ (windLoadTick s).engine = s.engine ∧ (windLoadTick s).power = s.power ∧
    (windLoadTick s).settings = s.settings ∧ (windLoadTick s).store = s.store ∧ (windLoadTick s).nv = s.nv ∧
    (windLoadTick s).pending = s.pending ∧ (windLoadTick s).draws = s.draws := by
  simp only [windLoadTick]
  (repeat' split) <;> simp

@[simp] theorem trackTimesOut_keeps (s : State) :
    (trackTimesOut s).transport = s.transport ∧ (trackTimesOut s).protection = s.protection ∧
    (trackTimesOut s).outputs = s.outputs ∧ (trackTimesOut s).pins = s.pins ∧
    (trackTimesOut s).reels = s.reels ∧ (trackTimesOut s).gauge = s.gauge ∧ (trackTimesOut s).clock = s.clock ∧
    (trackTimesOut s).tuner = s.tuner ∧ (trackTimesOut s).presets = s.presets ∧
    (trackTimesOut s).receiver = s.receiver ∧ (trackTimesOut s).slots = s.slots ∧
    (trackTimesOut s).engine = s.engine ∧ (trackTimesOut s).power = s.power ∧
    (trackTimesOut s).settings = s.settings ∧ (trackTimesOut s).store = s.store ∧ (trackTimesOut s).nv = s.nv ∧
    (trackTimesOut s).ports = s.ports ∧ (trackTimesOut s).pending = s.pending ∧
    (trackTimesOut s).draws = s.draws := by
  simp only [trackTimesOut]
  (repeat' split) <;> simp

@[simp] theorem stallExpires_keeps (s : State) :
    (stallExpires s).pins = s.pins ∧ (stallExpires s).clock = s.clock ∧ (stallExpires s).tuner = s.tuner ∧
    (stallExpires s).presets = s.presets ∧ (stallExpires s).receiver = s.receiver ∧
    (stallExpires s).power = s.power ∧ (stallExpires s).settings = s.settings ∧ (stallExpires s).nv = s.nv ∧
    (stallExpires s).pending = s.pending ∧ (stallExpires s).draws = s.draws := by
  simp only [stallExpires]
  (repeat' split) <;> simp

@[simp] theorem burstEnds_keeps (s : State) :
    (burstEnds s).pins = s.pins ∧ (burstEnds s).clock = s.clock ∧ (burstEnds s).tuner = s.tuner ∧
    (burstEnds s).presets = s.presets ∧ (burstEnds s).receiver = s.receiver ∧ (burstEnds s).power = s.power ∧
    (burstEnds s).settings = s.settings ∧ (burstEnds s).nv = s.nv ∧ (burstEnds s).pending = s.pending ∧
    (burstEnds s).draws = s.draws := by
  simp only [burstEnds]
  (repeat' split) <;> simp

@[simp] theorem setLockState_keeps (x : LockState) (s : State) :
    (setLockState x s).transport = s.transport ∧ (setLockState x s).protection = s.protection ∧
    (setLockState x s).outputs = s.outputs ∧ (setLockState x s).pins = s.pins ∧
    (setLockState x s).position = s.position ∧ (setLockState x s).reels = s.reels ∧
    (setLockState x s).gauge = s.gauge ∧ (setLockState x s).clock = s.clock ∧
    (setLockState x s).presets = s.presets ∧ (setLockState x s).slots = s.slots ∧
    (setLockState x s).engine = s.engine ∧ (setLockState x s).power = s.power ∧
    (setLockState x s).settings = s.settings ∧ (setLockState x s).store = s.store ∧
    (setLockState x s).nv = s.nv ∧ (setLockState x s).pending = s.pending ∧ (setLockState x s).draws = s.draws := by
  simp only [setLockState]
  simp

@[simp] theorem synthLockChanges_keeps (present : Bool) (s : State) :
    (synthLockChanges present s).transport = s.transport ∧
    (synthLockChanges present s).protection = s.protection ∧ (synthLockChanges present s).outputs = s.outputs ∧
    (synthLockChanges present s).position = s.position ∧ (synthLockChanges present s).reels = s.reels ∧
    (synthLockChanges present s).gauge = s.gauge ∧ (synthLockChanges present s).clock = s.clock ∧
    (synthLockChanges present s).presets = s.presets ∧ (synthLockChanges present s).slots = s.slots ∧
    (synthLockChanges present s).engine = s.engine ∧ (synthLockChanges present s).power = s.power ∧
    (synthLockChanges present s).settings = s.settings ∧ (synthLockChanges present s).store = s.store ∧
    (synthLockChanges present s).nv = s.nv ∧ (synthLockChanges present s).pending = s.pending ∧
    (synthLockChanges present s).draws = s.draws := by
  simp only [synthLockChanges]
  (repeat' split) <;> simp

@[simp] theorem settlingEnds_keeps (s : State) :
    (settlingEnds s).transport = s.transport ∧ (settlingEnds s).protection = s.protection ∧
    (settlingEnds s).outputs = s.outputs ∧ (settlingEnds s).pins = s.pins ∧
    (settlingEnds s).position = s.position ∧ (settlingEnds s).reels = s.reels ∧
    (settlingEnds s).gauge = s.gauge ∧ (settlingEnds s).clock = s.clock ∧
    (settlingEnds s).presets = s.presets ∧ (settlingEnds s).slots = s.slots ∧
    (settlingEnds s).engine = s.engine ∧ (settlingEnds s).power = s.power ∧
    (settlingEnds s).settings = s.settings ∧ (settlingEnds s).store = s.store ∧ (settlingEnds s).nv = s.nv ∧
    (settlingEnds s).pending = s.pending ∧ (settlingEnds s).draws = s.draws := by
  simp only [settlingEnds]
  (repeat' split) <;> simp

@[simp] theorem retryLock_keeps (s : State) :
    (retryLock s).transport = s.transport ∧ (retryLock s).protection = s.protection ∧
    (retryLock s).pins = s.pins ∧ (retryLock s).position = s.position ∧ (retryLock s).reels = s.reels ∧
    (retryLock s).gauge = s.gauge ∧ (retryLock s).clock = s.clock ∧ (retryLock s).presets = s.presets ∧
    (retryLock s).slots = s.slots ∧ (retryLock s).engine = s.engine ∧ (retryLock s).power = s.power ∧
    (retryLock s).settings = s.settings ∧ (retryLock s).store = s.store ∧ (retryLock s).nv = s.nv ∧
    (retryLock s).pending = s.pending ∧ (retryLock s).draws = s.draws := by
  simp only [retryLock]
  (repeat' split) <;> simp

@[simp] theorem stepAft_keeps (line : AftLine) (s : State) :
    (stepAft line s).transport = s.transport ∧ (stepAft line s).protection = s.protection ∧
    (stepAft line s).pins = s.pins ∧ (stepAft line s).position = s.position ∧
    (stepAft line s).reels = s.reels ∧ (stepAft line s).gauge = s.gauge ∧ (stepAft line s).clock = s.clock ∧
    (stepAft line s).presets = s.presets ∧ (stepAft line s).receiver = s.receiver ∧
    (stepAft line s).slots = s.slots ∧ (stepAft line s).engine = s.engine ∧ (stepAft line s).power = s.power ∧
    (stepAft line s).settings = s.settings ∧ (stepAft line s).store = s.store ∧ (stepAft line s).nv = s.nv ∧
    (stepAft line s).pending = s.pending ∧ (stepAft line s).draws = s.draws := by
  simp only [stepAft]
  (repeat' split) <;> simp

@[simp] theorem aftWindow_keeps (line : AftLine) (s : State) :
    (aftWindow line s).transport = s.transport ∧ (aftWindow line s).protection = s.protection ∧
    (aftWindow line s).pins = s.pins ∧ (aftWindow line s).position = s.position ∧
    (aftWindow line s).reels = s.reels ∧ (aftWindow line s).gauge = s.gauge ∧
    (aftWindow line s).clock = s.clock ∧ (aftWindow line s).presets = s.presets ∧
    (aftWindow line s).slots = s.slots ∧ (aftWindow line s).engine = s.engine ∧
    (aftWindow line s).power = s.power ∧ (aftWindow line s).settings = s.settings ∧
    (aftWindow line s).store = s.store ∧ (aftWindow line s).nv = s.nv ∧
    (aftWindow line s).pending = s.pending ∧ (aftWindow line s).draws = s.draws := by
  simp only [aftWindow]
  (repeat' split) <;> simp

@[simp] theorem tuneAfterSearch_keeps (x : StationSearch) (s : State) :
    (tuneAfterSearch x s).transport = s.transport ∧ (tuneAfterSearch x s).protection = s.protection ∧
    (tuneAfterSearch x s).pins = s.pins ∧ (tuneAfterSearch x s).position = s.position ∧
    (tuneAfterSearch x s).reels = s.reels ∧ (tuneAfterSearch x s).gauge = s.gauge ∧
    (tuneAfterSearch x s).presets = s.presets ∧ (tuneAfterSearch x s).slots = s.slots ∧
    (tuneAfterSearch x s).engine = s.engine ∧ (tuneAfterSearch x s).power = s.power ∧
    (tuneAfterSearch x s).settings = s.settings ∧ (tuneAfterSearch x s).store = s.store ∧
    (tuneAfterSearch x s).nv = s.nv ∧ (tuneAfterSearch x s).pending = s.pending ∧
    (tuneAfterSearch x s).draws = s.draws := by
  simp only [tuneAfterSearch]
  (repeat' split) <;> simp

@[simp] theorem searchExhausted_keeps (x : StationSearch) (o : StationOutcome) (divider : Nat) (s : State) :
    (searchExhausted x o divider s).transport = s.transport ∧
    (searchExhausted x o divider s).protection = s.protection ∧ (searchExhausted x o divider s).pins = s.pins ∧
    (searchExhausted x o divider s).position = s.position ∧ (searchExhausted x o divider s).reels = s.reels ∧
    (searchExhausted x o divider s).gauge = s.gauge ∧ (searchExhausted x o divider s).presets = s.presets ∧
    (searchExhausted x o divider s).slots = s.slots ∧ (searchExhausted x o divider s).engine = s.engine ∧
    (searchExhausted x o divider s).power = s.power ∧ (searchExhausted x o divider s).settings = s.settings ∧
    (searchExhausted x o divider s).store = s.store ∧ (searchExhausted x o divider s).nv = s.nv ∧
    (searchExhausted x o divider s).pending = s.pending ∧ (searchExhausted x o divider s).draws = s.draws := by
  simp only [searchExhausted]
  simp

@[simp] theorem stationFound_keeps (x : StationSearch) (found : Nat) (s : State) :
    (stationFound x found s).transport = s.transport ∧ (stationFound x found s).protection = s.protection ∧
    (stationFound x found s).pins = s.pins ∧ (stationFound x found s).position = s.position ∧
    (stationFound x found s).reels = s.reels ∧ (stationFound x found s).gauge = s.gauge ∧
    (stationFound x found s).presets = s.presets ∧ (stationFound x found s).slots = s.slots ∧
    (stationFound x found s).engine = s.engine ∧ (stationFound x found s).power = s.power ∧
    (stationFound x found s).settings = s.settings ∧ (stationFound x found s).store = s.store ∧
    (stationFound x found s).nv = s.nv ∧ (stationFound x found s).pending = s.pending ∧
    (stationFound x found s).draws = s.draws := by
  simp only [stationFound]
  simp

@[simp] theorem searchTo_keeps (x : StationSearch) (phase : StationPhase) (n : Nat) (s : State) :
    (searchTo x phase n s).transport = s.transport ∧ (searchTo x phase n s).protection = s.protection ∧
    (searchTo x phase n s).pins = s.pins ∧ (searchTo x phase n s).position = s.position ∧
    (searchTo x phase n s).reels = s.reels ∧ (searchTo x phase n s).gauge = s.gauge ∧
    (searchTo x phase n s).clock = s.clock ∧ (searchTo x phase n s).presets = s.presets ∧
    (searchTo x phase n s).receiver = s.receiver ∧ (searchTo x phase n s).slots = s.slots ∧
    (searchTo x phase n s).engine = s.engine ∧ (searchTo x phase n s).power = s.power ∧
    (searchTo x phase n s).settings = s.settings ∧ (searchTo x phase n s).store = s.store ∧
    (searchTo x phase n s).nv = s.nv ∧ (searchTo x phase n s).ports = s.ports ∧
    (searchTo x phase n s).pending = s.pending ∧ (searchTo x phase n s).draws = s.draws := by
  simp only [searchTo]
  simp

@[simp] theorem moveOn_keeps (x : StationSearch) (phase : StationPhase) (from_ : Nat) (s : State) :
    (moveOn x phase from_ s).transport = s.transport ∧ (moveOn x phase from_ s).protection = s.protection ∧
    (moveOn x phase from_ s).pins = s.pins ∧ (moveOn x phase from_ s).position = s.position ∧
    (moveOn x phase from_ s).reels = s.reels ∧ (moveOn x phase from_ s).gauge = s.gauge ∧
    (moveOn x phase from_ s).presets = s.presets ∧ (moveOn x phase from_ s).slots = s.slots ∧
    (moveOn x phase from_ s).engine = s.engine ∧ (moveOn x phase from_ s).power = s.power ∧
    (moveOn x phase from_ s).settings = s.settings ∧ (moveOn x phase from_ s).store = s.store ∧
    (moveOn x phase from_ s).nv = s.nv ∧ (moveOn x phase from_ s).pending = s.pending ∧
    (moveOn x phase from_ s).draws = s.draws := by
  simp only [moveOn]
  (repeat' split) <;> simp

@[simp] theorem storeFound_keeps (x : StationSearch) (found : Nat) (s : State) :
    (storeFound x found s).transport = s.transport ∧ (storeFound x found s).protection = s.protection ∧
    (storeFound x found s).pins = s.pins ∧ (storeFound x found s).position = s.position ∧
    (storeFound x found s).reels = s.reels ∧ (storeFound x found s).gauge = s.gauge ∧
    (storeFound x found s).slots = s.slots ∧ (storeFound x found s).engine = s.engine ∧
    (storeFound x found s).power = s.power ∧ (storeFound x found s).settings = s.settings ∧
    (storeFound x found s).nv = s.nv ∧ (storeFound x found s).pending = s.pending ∧
    (storeFound x found s).draws = s.draws := by
  simp only [storeFound]
  (repeat' split) <;> simp

@[simp] theorem takeFound_keeps (x : StationSearch) (found : Nat) (s : State) :
    (takeFound x found s).transport = s.transport ∧ (takeFound x found s).protection = s.protection ∧
    (takeFound x found s).pins = s.pins ∧ (takeFound x found s).position = s.position ∧
    (takeFound x found s).reels = s.reels ∧ (takeFound x found s).gauge = s.gauge ∧
    (takeFound x found s).slots = s.slots ∧ (takeFound x found s).engine = s.engine ∧
    (takeFound x found s).power = s.power ∧ (takeFound x found s).settings = s.settings ∧
    (takeFound x found s).nv = s.nv ∧ (takeFound x found s).pending = s.pending ∧
    (takeFound x found s).draws = s.draws := by
  simp only [takeFound]
  (repeat' split) <;> simp

@[simp] theorem centreOn_keeps (x : StationSearch) (reading : AftLine) (s : State) :
    (centreOn x reading s).transport = s.transport ∧ (centreOn x reading s).protection = s.protection ∧
    (centreOn x reading s).pins = s.pins ∧ (centreOn x reading s).position = s.position ∧
    (centreOn x reading s).reels = s.reels ∧ (centreOn x reading s).gauge = s.gauge ∧
    (centreOn x reading s).slots = s.slots ∧ (centreOn x reading s).engine = s.engine ∧
    (centreOn x reading s).power = s.power ∧ (centreOn x reading s).settings = s.settings ∧
    (centreOn x reading s).nv = s.nv ∧ (centreOn x reading s).pending = s.pending ∧
    (centreOn x reading s).draws = s.draws := by
  simp only [centreOn]
  (repeat' split) <;> simp

@[simp] theorem stepPhase_keeps (x : StationSearch) (sync : Bool) (aft : AftLine) (s : State) :
    (stepPhase x sync aft s).transport = s.transport ∧ (stepPhase x sync aft s).protection = s.protection ∧
    (stepPhase x sync aft s).pins = s.pins ∧ (stepPhase x sync aft s).position = s.position ∧
    (stepPhase x sync aft s).reels = s.reels ∧ (stepPhase x sync aft s).gauge = s.gauge ∧
    (stepPhase x sync aft s).slots = s.slots ∧ (stepPhase x sync aft s).engine = s.engine ∧
    (stepPhase x sync aft s).power = s.power ∧ (stepPhase x sync aft s).settings = s.settings ∧
    (stepPhase x sync aft s).nv = s.nv ∧ (stepPhase x sync aft s).pending = s.pending ∧
    (stepPhase x sync aft s).draws = s.draws := by
  simp only [stepPhase]
  (repeat' split) <;> simp

@[simp] theorem searchStepEnds_keeps (sync lock : Bool) (aft : AftLine) (s : State) :
    (searchStepEnds sync lock aft s).transport = s.transport ∧
    (searchStepEnds sync lock aft s).protection = s.protection ∧
    (searchStepEnds sync lock aft s).position = s.position ∧ (searchStepEnds sync lock aft s).reels = s.reels ∧
    (searchStepEnds sync lock aft s).gauge = s.gauge ∧ (searchStepEnds sync lock aft s).slots = s.slots ∧
    (searchStepEnds sync lock aft s).engine = s.engine ∧ (searchStepEnds sync lock aft s).power = s.power ∧
    (searchStepEnds sync lock aft s).settings = s.settings ∧ (searchStepEnds sync lock aft s).nv = s.nv ∧
    (searchStepEnds sync lock aft s).pending = s.pending ∧ (searchStepEnds sync lock aft s).draws = s.draws := by
  simp only [searchStepEnds]
  (repeat' split) <;> simp

@[simp] theorem stopRequest_keeps (l : Link) (r : Rank) (s : State) :
    (stopRequest l r s).2.protection = s.protection ∧ (stopRequest l r s).2.pins = s.pins ∧
    (stopRequest l r s).2.presets = s.presets ∧ (stopRequest l r s).2.settings = s.settings ∧
    (stopRequest l r s).2.nv = s.nv ∧ (stopRequest l r s).2.pending = s.pending ∧
    (stopRequest l r s).2.draws = s.draws := by
  have k := requestTransport_keeps l r .stop s
  simp only [stopRequest]
  split
  · next h => rw [h] at k; split <;> simp_all
  · simp

end Sys2Proof.Machine
end

