-- ==== Sys2Proof/Laws/Steps.lean ====
section
/-!
SUPPORT. How a step ends: every command either leaves the state as it was or ends with `finish`; when the engine has
nothing to do, and what `finish` and `settle` come to there; that nothing is judged where no window has
passed; and the ports under `raise` and `judgeAttention`.
-/

namespace Sys2Proof.Machine

/-! ## The ends of a step -/

theorem settle_eq_finish (s : State) : settle s = finish (runEngine Config.engineActions (judgeSwitchOff s)) := rfl

theorem judgeSwitchOff_none {s : State} (h : s.power.pendingOff = none) : judgeSwitchOff s = s := by
  simp [judgeSwitchOff, h]

theorem engineAction_none {s : State} (h : s.engine.current = none) (k : s.engine.judgeDue = false) :
    engineAction s = none := by
  simp [engineAction, h, k]

theorem runEngine_none {s : State} (h : engineAction s = none) (n : Nat) : runEngine n s = s := by
  cases n <;> simp [runEngine, h]

theorem runEngine_some {s t : State} (h : engineAction s = some t) (n : Nat) : runEngine (n + 1) s = runEngine n t := by
  simp [runEngine, h]

/-- When an occurrence has nothing to do (R151, R152, R154, R159, R163): ending with the tape on its way to rest; in WAITING
with a block busy, or past its stop; else with no start to judge, no recording that has begun unseen and no Record request to
send. -/
theorem occurrenceAction_none_iff {o : Occurrence} {s : State} : occurrenceAction o s = none ↔
    (o.phase = .ending ∧ o.held = true ∧ s.transport.state.resting = false) ∨
    (o.phase = .waiting ∧ (s.transportBusy = true ∨ s.tunerBusy = true ∨ o.stop ≤ s.now)) ∨
    (o.phase ≠ .ending ∧ o.phase ≠ .waiting ∧ (o.startDue = true → s.transport.state = .inserting) ∧
      (o.startSent = true → o.begun = false → s.transport.state ≠ .record) ∧
      (o.resumeDue = true → s.transport.state ≠ .parked)) := by
  simp only [occurrenceAction]
  by_cases he : o.phase = .ending
  · simp [he]
  · by_cases hw : o.phase = .waiting
    · simp only [hw, if_false, if_true, reduceCtorEq, ne_eq, not_true, not_false_iff, false_and, false_or, true_and,
        or_false]
      cases s.transportBusy <;> cases s.tunerBusy <;> simp
    · simp only [he, hw, if_false, ne_eq, not_false_iff, false_and, false_or, true_and]
      (repeat' split) <;> simp_all

/-- When the engine has nothing to do: in HOLD, with no occurrence and none to judge, or with one that has nothing to do. -/
theorem engineAction_none_iff {s : State} : engineAction s = none ↔ s.inHold = true ∨
    (s.engine.current = none ∧ s.engine.judgeDue = false) ∨
    ∃ o, s.engine.current = some o ∧ occurrenceAction o s = none := by
  simp only [engineAction]
  cases s.inHold <;> cases s.engine.current <;> simp

theorem State.quiet.undisturbed {s : State} (h : s.quiet) : s.undisturbed := ⟨engineAction_none h.1 h.2.1, h.2.2⟩

/-- Nothing to be done reads the engine, the power record, the transport's state, the two holders and the minute alone. -/
theorem State.undisturbed.congr {s u : State} (he : u.engine = s.engine) (hp : u.power = s.power)
    (ht : u.transport.state = s.transport.state) (hh : u.transport.holder = s.transport.holder)
    (hu : u.tuner.holder = s.tuner.holder) (hn : u.now = s.now) (h : s.undisturbed) : u.undisturbed := by
  simpa [State.undisturbed, engineAction_none_iff, occurrenceAction_none_iff, State.inHold, State.transportBusy,
    State.tunerBusy, he, hp, ht, hh, hu, hn] using h

/-- Nothing is left to be done by a command that keeps the engine, the power record and the minute, leaves no busy block free,
and moves the tape, if at all, from outside INSERTING to a state that is not a rest, RECORD only where no start is sent. -/
theorem State.undisturbed.moved {s u : State} (he : u.engine = s.engine) (hp : u.power = s.power) (hn : u.now = s.now)
    (hb : s.transportBusy = true → u.transportBusy = true) (hu : s.tunerBusy = true → u.tunerBusy = true)
    (ht : u.transport.state = s.transport.state ∨
      s.transport.state ≠ .inserting ∧ u.transport.state.resting = false ∧
        (u.transport.state = .record → ∀ o, s.engine.current = some o → o.startSent = false))
    (h : s.undisturbed) : u.undisturbed := by
  refine ⟨?_, by rw [hp]; exact h.2⟩
  have h := h.1
  rw [engineAction_none_iff] at h ⊢
  rw [he, State.inHold, hp]
  rcases h with h | h | ⟨o, ho, h⟩
  · exact .inl h
  · exact .inr (.inl h)
  · refine .inr (.inr ⟨o, ho, ?_⟩)
    rw [occurrenceAction_none_iff] at h ⊢
    rw [hn]
    rcases ht with ht | ⟨hi, hr, hrec⟩
    · rw [ht]; grind
    · have : u.transport.state ≠ .parked := by rintro e; simp [e, TState.resting] at hr
      grind

/-- Where nothing is to be done `settle` is `finish`. -/
theorem settle_undisturbed {s : State} (h : s.undisturbed) : settle s = finish s := by
  rw [settle_eq_finish, judgeSwitchOff_none h.2, runEngine_none h.1]

/-- Where nothing stands due `settle` is `finish`. -/
theorem settle_quiet {s : State} (h : s.quiet) : settle s = finish s := settle_undisturbed h.undisturbed

/-- With no list kept a judgement of the due list finds nothing. -/
theorem comeDue_empty {s : State} (h : s.engine.due = []) : comeDue s = s := by simp [comeDue, h]

theorem dueListOf_unscheduled {s : State} (h : s.unscheduled) : dueListOf s = [] := by
  rcases h with h | h <;> simp [dueListOf, h]

theorem startRound_none {round : List Area} {s : State} (h : ∀ a, flagOf s.store.dirty a = false) :
    startRound round s = s := by
  have : round.find? (flagOf s.store.dirty) = none := by simp [h]
  simp [startRound, this]

theorem startWriter_lawful {s : State} (h : WriterLaw s) : startWriter s = s := by
  rcases h with h | h | h
  · simp [startWriter, State.inHold, h]
  · simp [startWriter, Option.isSome_iff_ne_none.2 h]
  · simp [startWriter, startRound_none h]

/-- Where the writer has nothing to take up `finish` judges the attention lines alone. -/
theorem finish_lawful {s : State} (h : WriterLaw s) : finish s = judgeAttention s := by
  rw [finish, startWriter_lawful h]

theorem finish_hold {s : State} (h : s.power.state = .hold) : finish s = judgeAttention s := by
  simp [finish, startWriter, State.inHold, h]

/-! ## Every command ends with `finish` or changes nothing -/

/-- The two ways in which a command may end. -/
def Ends (s : State) (o : Host.Outcome State Fault Refusal) : Prop := o = .next s ∨ ∃ u, o = .next (finish u)

theorem ends_finish (s u : State) : Ends s (.next (finish u)) := .inr ⟨u, rfl⟩

theorem ends_settle (s u : State) : Ends s (.next (settle u)) := .inr ⟨_, rfl⟩

theorem ends_request (l : Link) (r : Rank) (body : Rank → State → Answered) (s : State) :
    Ends s (.next (request l r body s)) := by
  simp only [request]; split
  · exact ends_settle ..
  · exact .inl rfl

theorem ends_quietRequest (l : Link) (r : Rank) (body : Rank → State → Answered) (s : State) :
    Ends s (.next (quietRequest l r body s)) := by
  simp only [quietRequest]; split
  · exact ends_finish ..
  · exact .inl rfl

theorem ends_discardFrame (l : Link) (s : State) : Ends s (.next (discardFrame l s)) := by
  simp only [discardFrame]; split
  · exact ends_finish ..
  · exact .inl rfl

theorem ends_resetLink (l : Link) (s : State) : Ends s (.next (resetLink l s)) := by
  simp only [resetLink]; split
  · exact ends_finish ..
  · exact .inl rfl

/-- Every command answers a next state, which is the state it found or one that `finish` left. -/
theorem exec_ends (c : Instr) (s : State) : Ends s (exec c s) := by
  cases c <;>
    simp only [exec, execFrameDiscarded, execBadRequest, execNop, execReadTransportDetail, execReadFaults,
    execReadCounter, execReadIndexListEntry, execReadGauge, execReadTime, execReadDate, execReadClockStatus,
    execReadTunerStatus, execReadAppliedPreset, execReadLabel, execReadLabelSecondPart, execReadReceiverStatus,
    execReadEventWorkRecordField, execReadPresetWorkRecordField, execReadTimerStatus, execReadSettings,
    execReadLinkStatus, execReadNextWord, execWriteEventWorkRecordField, execWritePresetWorkRecordField,
    execCapture, execWriteMask, execWriteSetting, execPlay, execRecord, execStop, execPause, execCue,
    execReview, execFwind, execRwind, execEject, execClearFaults, execResetCounter, execMemoryStop,
    execSearchCounter, execSearchIndex, execSetCassetteClass, execSetDate, execSetTime, execSelectPreset,
    execTuneStep, execSearchStation, execSearchStore, execFetchPreset, execStorePreset, execFetchEvent,
    execStoreEvent, execNewEvent, execDeleteEvent, execTimerOnOff, execTimerLock, execTimerUnlock, execPowerOn,
    execPowerOff, execResetLink, execTake, execCassetteSwitchCloses, execCassetteSwitchOpens,
    execParkedSwitchCloses, execThreadedSwitchCloses, execInsertTimeout, execThreadTimeout,
    execThreadRetryDelay, execUnthreadTimeout, execEjectTimeout, execStillLimit, execRecPauseLimit,
    execStopThreadedLimit, execOneTouchTimeRunsOut, execDrumSpinUpTimeout, execDrumLostTimeout,
    execDrumLockChange, execSpeedSenseChange, execTapeEndSensorActive, execTapeStartSensorActive,
    execWindLoadTick, execControlTrackPulse, execTrackStatusTimeout, execReelPulse, execStallTimerExpiry,
    execBurstPartEnd, execMainsCycle, execCrystalTick, execDataSlicerByte, execQuietTimerExpiry,
    execGapTimerExpiry, execSynthLockChange, execSettlingTimeout, execAftWindow, execSearchStepEnd,
    execSilenceTimerExpiry, execPowerReturnTimerExpiry, execStoreWriteAck, execStoreWriteTimeout, execMainsLoss,
    execMainsRestore, execColdStart, execLineReset, acting,
    answering, settled, finished, ends_request, ends_quietRequest, ends_discardFrame, ends_resetLink, ends_settle,
    ends_finish]

/-! ## No window has passed -/

theorem passedInUse_of_noneStoppedBy {s : State} {minute : Nat} (h : s.noneStoppedBy minute) :
    s.passedInUse minute :=
  fun e he hs => absurd (h e he) (by omega)

/-- Where no window of the list has stopped no slot is judged. -/
theorem missedSlots_of_noneStoppedBy {s : State} {minute : Nat} (why : MissedReason) (h : s.noneStoppedBy minute) :
    missedSlots why minute s = s.slots := by
  have none_ : ∀ i, s.engine.due.any (fun e => e.slot == i && decide (e.stop ≤ minute)) = false := by
    intro i
    simp only [List.any_eq_false, Bool.and_eq_true, decide_eq_true_eq, not_and, Nat.not_le]
    exact fun e he _ => h e he
  simp [missedSlots, none_, List.mapIdx_eq_iff]

@[simp] theorem judgedPassed_of_noneStoppedBy {s : State} (why : MissedReason) (h : s.noneStoppedBy s.now) :
    judgedPassed why s = s := by
  simp [judgedPassed, missedSlots_of_noneStoppedBy why h]

/-! ## Kinds raised -/

@[simp] theorem raise_port (k : Kind) (s : State) (m : Link) :
    (raise k s).port m = if s.live m then (s.port m).addKind k else s.port m := by
  cases m <;> simp only [raise, raiseOn] <;> (repeat' split) <;> simp_all [State.port_modPort]

@[simp] theorem judgeAttention_port (s : State) (m : Link) :
    (judgeAttention s).port m = { s.port m with attention := attentionOf (s.live m) (s.port m) } := by
  cases m <;> rfl

theorem Port.addKind_pending (k : Kind) (p : Port) : (p.addKind k).pending = p.pending ||| k.single := rfl

end Sys2Proof.Machine
end

