-- ==== Sys2Proof/Laws/Answers.lean ====
section
/-!
SUPPORT. What a step comes to where nothing else stands due: an answered frame, a settled event, and the ports that each
leaves. The provers rewrite with these instead of unfolding `settle`, `finish` and the frame.
-/

namespace Sys2Proof.Machine

/-- The state that an answered frame leaves: the answer in the reply holder, the word of select-fall shifted out, the
attention lines judged. -/
def State.answered (s : State) (l : Link) (a : Answered) : State :=
  judgeAttention (a.2.modPort l fun p => { p with reply := a.1.holder, outgoing := outgoingWord l s })

/-- A frame whose request reaches its own block alone. -/
theorem answering_next {l : Link} {r : Rank} {body : Rank → State → Answered} {s : State}
    (hl : liveIn s.power.state l = true) (hw : WriterLaw (body (effectiveRank s l r) s).2) :
    answering l r body s = .next (s.answered l (body (effectiveRank s l r) s)) := by
  simp only [answering, quietRequest, State.live, hl, if_true, frame, State.answered]
  rw [finish_lawful]
  simpa [WriterLaw] using hw

/-- A frame whose request may reach the engine, where nothing is left to be done, an occurrence in progress or not. -/
theorem acting_undisturbed {l : Link} {r : Rank} {body : Rank → State → Answered} {s : State}
    (hl : liveIn s.power.state l = true) (hq : (body (effectiveRank s l r) s).2.undisturbed)
    (hw : WriterLaw (body (effectiveRank s l r) s).2) :
    acting l r body s = .next (s.answered l (body (effectiveRank s l r) s)) := by
  simp only [acting, request, State.live, hl, if_true, frame, State.answered]
  rw [settle_undisturbed (hq.congr (by simp) (by simp) (by simp) (by simp) (by simp) (by simp [State.now])), finish_lawful]
  simpa [WriterLaw] using hw

/-- A frame whose request may reach the engine, where nothing is left due. -/
theorem acting_next {l : Link} {r : Rank} {body : Rank → State → Answered} {s : State}
    (hl : liveIn s.power.state l = true) (hq : (body (effectiveRank s l r) s).2.quiet)
    (hw : WriterLaw (body (effectiveRank s l r) s).2) :
    acting l r body s = .next (s.answered l (body (effectiveRank s l r) s)) := acting_undisturbed hl hq.undisturbed hw

/-- An event that leaves nothing to be done, an occurrence in progress or not. -/
theorem settled_undisturbed {u : State} (hq : u.undisturbed) (hw : WriterLaw u) :
    settled u = .next (judgeAttention u) := by
  rw [settled, settle_undisturbed hq, finish_lawful hw]

/-- An event that leaves nothing due. -/
theorem settled_next {u : State} (hq : u.quiet) (hw : WriterLaw u) : settled u = .next (judgeAttention u) :=
  settled_undisturbed hq.undisturbed hw

/-- An event that reaches neither the engine nor the supplies. -/
theorem finished_next {u : State} (hw : WriterLaw u) : finished u = .next (judgeAttention u) := by
  rw [finished, finish_lawful hw]

/-- The writer's law reads the power state and the store alone. -/
theorem WriterLaw.congr {s u : State} (hp : u.power = s.power) (hs : u.store = s.store) (h : WriterLaw s) :
    WriterLaw u := by
  simpa [WriterLaw, hp, hs] using h

/-- Nothing due reads the engine and the power record alone. -/
theorem State.quiet.congr {s u : State} (he : u.engine = s.engine) (hp : u.power = s.power) (h : s.quiet) : u.quiet := by
  simpa [State.quiet, hp, he] using h

/-- The ports of an answered frame whose request edited its own port's fields and raised nothing. -/
theorem answered_edited {s u v : State} {l : Link} {a : Answer} (hp : u.power = s.power) (hv : v.power = s.power)
    (hu : u.ports = v.ports) (hw : outgoingWord l v = outgoingWord l s) :
    s.answered l (a, u) = { u with ports := portsAfter v (some (l, a.holder)) 0 } := by
  simp only [State.answered]
  rw [← hw]
  cases l <;> simp [judgeAttention, State.modPort, portsAfter, portAfter, State.modPorts, State.live, hp, hv, hu,
    State.port, PerLink.get, PerLink.put, calls, attentionOf]

/-- The ports of an answered frame whose request left the ports alone. -/
theorem answered_ports {s u : State} {l : Link} {a : Answer} (hp : u.power = s.power) (hu : u.ports = s.ports) :
    s.answered l (a, u) = { u with ports := portsAfter s (some (l, a.holder)) 0 } :=
  answered_edited hp rfl hu rfl

/-- The ports of an answered frame whose request raised kinds under an unchanged power state. -/
theorem answered_raised {s u : State} {l : Link} {a : Answer} {ks : KindSet} (hp : u.power.state = s.power.state)
    (hu : u.ports = raisedPorts s ks) :
    s.answered l (a, u) = { u with ports := portsAfter s (some (l, a.holder)) ks } := by
  simp only [State.answered]
  cases l <;> simp [judgeAttention, State.modPort, portsAfter, portAfter, State.modPorts, State.live, hp, hu,
    raisedPorts, State.port, PerLink.get, PerLink.put, calls, attentionOf]

/-- The ports after an event that raised kinds under an unchanged power state. -/
theorem judged_raised {s u : State} {ks : KindSet} (hp : u.power.state = s.power.state) (hu : u.ports = raisedPorts s ks) :
    judgeAttention u = { u with ports := portsAfter s none ks } := by
  simp [judgeAttention, portsAfter, portAfter, State.modPorts, State.live, hp, hu, raisedPorts, State.port,
    PerLink.get, calls, attentionOf]

/-- One kind raised. -/
theorem raise_ports (k : Kind) (s : State) : (raise k s).ports = raisedPorts s k.single := by
  cases h : s.power.state <;>
    simp [raise, raiseOn, raisedPorts, State.live, liveIn, State.modPort, State.modPorts, State.port, PerLink.get,
      PerLink.put, Port.addKind, h]

/-- A further kind raised. -/
theorem raise_raisedPorts {s u : State} {ks : KindSet} (k : Kind) (hp : u.power.state = s.power.state)
    (hu : u.ports = raisedPorts s ks) : (raise k u).ports = raisedPorts s (ks ||| k.single) := by
  rw [raise_ports]
  simp only [raisedPorts, State.port, PerLink.get, hu, hp]
  (repeat' split) <;> simp_all [BitVec.or_assoc]

theorem raisedPorts_zero (s : State) : raisedPorts s 0 = s.ports := by simp [raisedPorts, State.port, PerLink.get]

/-- A kind raised where a condition holds. -/
theorem raiseIf_raisedPorts {s u : State} {ks : KindSet} (c : Bool) (k : Kind) (hp : u.power.state = s.power.state)
    (hu : u.ports = raisedPorts s ks) :
    (raiseIf c k u).ports = raisedPorts s (ks ||| if c then k.single else 0) := by
  cases c
  · simp [raiseIf, hu]
  · simpa [raiseIf] using raise_raisedPorts k hp hu

end Sys2Proof.Machine
end

