-- ==== Sys2Proof/Laws/Stored.lean ====
section
/-!
SUPPORT. The nonvolatile areas and their sums (R175 to R177), and what the resets of a port leave of it (R109, R132, R181).
-/

namespace Sys2Proof.Machine

/-- Contents stored with their sum are good. -/
@[simp] theorem Stored.sealed_whole {α : Type} (bytes : α → List Nat) (x : α) : (Stored.sealed bytes x).whole bytes = true := by
  simp [Stored.sealed, Stored.whole]

@[simp] theorem Stored.sealed_copy {α : Type} (bytes : α → List Nat) (x : α) : (Stored.sealed bytes x).copy = x := rfl

/-- A spoilt area is not good, whatever it was. -/
@[simp] theorem Stored.spoilt_whole {α : Type} (bytes : α → List Nat) (x : Stored α) :
    (x.spoilt bytes).whole bytes = false := by
  simp only [Stored.spoilt, Stored.whole, sumOf, beq_eq_false_iff_ne]
  omega

@[simp] theorem Stored.spoilt_copy {α : Type} (bytes : α → List Nat) (x : Stored α) : (x.spoilt bytes).copy = x.copy := rfl

/-- A load takes a good area as it stands and the defaults in place of a bad one. -/
theorem loadArea_eq {α : Type} (bytes : α → List Nat) (x : Stored α) (factory : α) :
    loadArea bytes x factory = if x.sum = sumOf (bytes x.copy) then x.copy else factory := by
  simp [loadArea, Stored.whole]

/-- What an area holds after a write: the old copy with its sum, the new copy with its sum, or a sum that fails. -/
theorem residueOf_cases {α : Type} (bytes : α → List Nat) (x : Config.StoreResidue) (new : α) (old : Stored α) :
    residueOf bytes x new old = old ∨ residueOf bytes x new old = .sealed bytes new ∨
    residueOf bytes x new old = old.spoilt bytes := by
  cases x <;> simp [residueOf]

/-- The store that a cold start finds has no good sum in an area whose write was cut short or that the command names. -/
theorem foundStore_bad (failed : AreaFlags) (s : State) (a : Area)
    (h : flagOf failed a = true ∨ flagOf s.store.cutShort a = true) :
    flagOf (badAreas (foundStore failed s)) a = true := by
  cases a <;> simp only [flagOf, badAreas, foundStore, Nonvolatile.spoil] at h ⊢ <;>
    rcases h with h | h <;> simp only [h, if_true, Stored.spoilt_whole, Bool.not_false] <;>
    split <;> simp

@[simp] theorem Port.dead_pending (p : Port) : p.dead.pending = p.pending := rfl
@[simp] theorem Port.dead_mask (p : Port) : p.dead.mask = p.mask := rfl
@[simp] theorem Port.dead_reply (p : Port) : p.dead.reply = p.reply := rfl
@[simp] theorem Port.dead_readBuffer (p : Port) : p.dead.readBuffer = p.readBuffer := rfl
@[simp] theorem Port.dead_eventWork (p : Port) : p.dead.eventWork = p.eventWork := rfl
@[simp] theorem Port.dead_presetWork (p : Port) : p.dead.presetWork = p.presetWork := rfl
@[simp] theorem Port.dead_outgoing (p : Port) : p.dead.outgoing = 0 := rfl
@[simp] theorem Port.dead_frame (p : Port) : p.dead.frame = none := rfl
@[simp] theorem Port.dead_attention (p : Port) : p.dead.attention = false := rfl
@[simp] theorem Port.worksReset_pending (i p : Port) : (Port.worksReset i p).pending = p.pending := rfl
@[simp] theorem Port.worksReset_mask (i p : Port) : (Port.worksReset i p).mask = p.mask := rfl
@[simp] theorem Port.worksReset_attention (i p : Port) : (Port.worksReset i p).attention = p.attention := rfl
@[simp] theorem Port.worksReset_eventWork (i p : Port) : (Port.worksReset i p).eventWork = i.eventWork := rfl
@[simp] theorem Port.worksReset_presetWork (i p : Port) : (Port.worksReset i p).presetWork = i.presetWork := rfl

end Sys2Proof.Machine
end

