-- ==== Sys2Proof/Tests/Slice0.lean ====
section
/-!
SUPPORT. Tests of the model: the well-formedness checks, request words written out from the frame layout, one small step for
each command with its result taken from the manual, and states that meet the hypotheses of the statements.
-/

namespace Sys2Proof.Tests

set_option Elab.async false

open Sys2Proof Sys2Proof.Machine

/-! ## Small states -/

/-- Main power ON, no cassette. -/
def deck : State :=
  { State.reset with
    power := { Power.reset with state := .on }
    outputs := { Outputs.reset with relay := true } }

/-- A cassette with its tab in a state of the transport, main power ON. -/
def tape (t : TState) : State :=
  driveOutputs
    { deck with
      transport := { Transport.reset with
        state := t, tab := .present, motion := motionOn t, limit := limitOn t,
        drum := if t.drumState then .locked else .off }
      pins := { Pins.reset with cassetteClosed := true }
      position := { Position.reset with direction := t.motion }
      gauge := { Gauge.reset with active := some 4 } }

/-- The same in STANDBY. -/
def standby (t : TState) : State :=
  { tape t with power := Power.reset, outputs := { (tape t).outputs with relay := false } }

/-- The same in HOLD. -/
def held (t : TState) : State :=
  { standby t with power := { Power.reset with state := .hold } }

/-- A transport held by someone. -/
def holding (h : Holder) (s : State) : State := { s with transport := { s.transport with holder := h } }

/-- A transport with an intent. -/
def intending (i : Intent) (s : State) : State := { s with transport := { s.transport with intent := some i } }

/-- A latched fault set. -/
def faulty (f : Faults) (s : State) : State := { s with protection := { s.protection with faults := f } }

/-- A counter at a position with marks. -/
def counted (n : Int) (marks : List Int) (s : State) : State :=
  { s with position := { s.position with counter := n, index := marks } }

/-- A search running. -/
def searching (x : Search) (s : State) : State := { s with position := { s.position with search := some x } }

/-- Preset 5 applied, locked, at divider 4283, with identity 0x1C3 and as a time source. -/
def viewing (s : State) : State :=
  { s with
    presets := s.presets.set 4
      { Preset.factory with stored := true, divider := 4283, identity := some 0x1C3, timeSource := true }
    tuner := { Tuner.reset with
      present := true, source := .preset 5, base := 4283, aft := true, divider := 4283, band := .mid, lock := .locked }
    outputs := { s.outputs with tunerWord := some 4283 }
    receiver := { Receiver.reset with live := true, state := .seekStart } }

/-- A clock that has been set, at a time. -/
def clocked (d : Date) (t : Time) (s : State) : State :=
  { s with clock := { s.clock with set := true, now := ⟨d, t⟩ } }

/-- The last timebase count of a second is about to come. -/
def ticking (s : State) : State := { s with clock := { s.clock with subSecond := 588 } }

/-- A slot in use. -/
def slotted (n : Nat) (e : EventDef) (s : State) : State :=
  { s with
    slots := s.slots.set n
      { Slot.factory with inUse := true, defn := e, owner := some (.p, .user), version := 17 } }

/-- The daily recording of preset 5 from 19:30 to 20:15. -/
def daily : EventDef :=
  { EventDef.free with enabled := true, rep := .daily, start := 1170, stop := 1215, preset := 5, speed := .sp }

/-- What a command leaves, judged. -/
def leaves (c : Instr) (s : State) (ok : State → Bool) : Bool :=
  match exec c s with
  | .next t => ok t
  | _ => false

/-- What a list of commands leaves, judged. -/
def refuses (c : Instr) (l : Link) (code : Nat) (s : State) : Bool :=
  leaves c s fun t => (t.port l).reply == refusedWith code

/-! ## Well-formedness: an ill-formed term for each check -/

theorem test_wf_frame_of_32_edges : (Instr.frameDiscarded .p 32).wf = false := by decide
theorem test_wf_frame_of_31_edges : (Instr.frameDiscarded .p 31).wf = true := by decide
theorem test_wf_badRequest_names_read_13 : (Instr.badRequest .p 0x0D000000#32).wf = false := by decide
theorem test_wf_badRequest_names_write_3 : (Instr.badRequest .p 0x43000000#32).wf = false := by decide
theorem test_wf_badRequest_names_action : (Instr.badRequest .p 0x9F000000#32).wf = false := by decide
theorem test_wf_badRequest_names_take : (Instr.badRequest .p 0xC0000000#32).wf = false := by decide
theorem test_wf_badRequest_read_14 : (Instr.badRequest .p 0x0E000000#32).wf = true := by decide
theorem test_wf_clock_part_1 : (Instr.readClockStatus .p .user 1).wf = false := by decide
theorem test_wf_label_part_1 : (Instr.readReceiverStatus .p .user 1).wf = false := by decide
theorem test_wf_next_word_code_14 : (Instr.readNextWord .p .user 14 1 0).wf = false := by decide
theorem test_wf_next_word_index_0 : (Instr.readNextWord .p .user 13 0 0).wf = false := by decide
theorem test_wf_field_9_is_capture : (Instr.writePresetWorkRecordField .p .user 9 0).wf = false := by decide
theorem test_wf_lock_0_is_unlock : (Instr.timerLock .p .user 0).wf = false := by decide
theorem test_wf_power_0_is_off : (Instr.powerOn .p .user 0).wf = false := by decide

/-! ## Request words written out from R183 and R186: class, rank, code, argument -/

theorem test_word_take : decodeRequest .p 0b11000000_000000111111111111111111#32 = .take .p .user 0x03FFFF := by decide
theorem test_word_eject : decodeRequest .g 0b10101001_000000000000000000000000#32 = .eject .g .automatic 0 := by decide
theorem test_word_reads :
    decodeRequest .p 0b00000000_000000000000000000000000#32 = .readTransportDetail .p .user 0 ∧
    decodeRequest .p 0b00000001_000000000000000000000000#32 = .readFaults .p .user 0 ∧
    decodeRequest .p 0b00000010_000000000000000000000000#32 = .readCounter .p .user 0 ∧
    decodeRequest .p 0b00000011_000000000000000000011111#32 = .readIndexListEntry .p .user 31 ∧
    decodeRequest .p 0b00000100_000000000000000000001111#32 = .readGauge .p .user 15 ∧
    decodeRequest .p 0b00000101_000000000000000000000010#32 = .readClockStatus .p .user 2 ∧
    decodeRequest .p 0b00000110_000000000000000000000101#32 = .readTunerStatus .p .user 5 ∧
    decodeRequest .p 0b00000111_000000000000000000111100#32 = .readAppliedPreset .p .user 60 ∧
    decodeRequest .p 0b00001000_000000000000000000000000#32 = .readLabel .p .user ∧
    decodeRequest .p 0b00001000_000000000000000000000001#32 = .readLabelSecondPart .p .user ∧
    decodeRequest .p 0b00001000_000000000000000000000010#32 = .readReceiverStatus .p .user 2 ∧
    decodeRequest .p 0b00001001_000000000000000000001111#32 = .readEventWorkRecordField .p .user 15 ∧
    decodeRequest .p 0b00001010_000000000000000000001010#32 = .readPresetWorkRecordField .p .user 10 ∧
    decodeRequest .p 0b00001011_000000000000000000101111#32 = .readTimerStatus .p .user 47 ∧
    decodeRequest .p 0b00001101_000000000000000000000000#32 = .readLinkStatus .p .user 0 := by decide
theorem test_word_writes :
    decodeRequest .p 0b01000000_100000000000000000000000#32 = .writeEventWorkRecordField .p .user 8 0 ∧
    decodeRequest .p 0b01000001_001000001101011111010010#32 = .writePresetWorkRecordField .p .user 2 55250 ∧
    decodeRequest .g 0b01100010_000000000000000000000001#32 = .writeMask .g .automatic 0 1 := by decide
theorem test_word_actions :
    decodeRequest .p 0b10000011_000000000000000000000000#32 = .stop .p .user 0 ∧
    decodeRequest .p 0b10000100_000000000000000000000000#32 = .pause .p .user 0 ∧
    decodeRequest .p 0b10001011_000000000000000000000000#32 = .resetCounter .p .user 0 ∧
    decodeRequest .p 0b10001110_111111111111111111111110#32 = .searchIndex .p .user 0xFFFFFE ∧
    decodeRequest .p 0b10010000_000000000001101101000010#32 = .setDate .p .user 0x001B42 ∧
    decodeRequest .p 0b10010001_000000001000001111000000#32 = .setTime .p .user 0x0083C0 ∧
    decodeRequest .p 0b10010010_000000000000000000111110#32 = .selectPreset .p .user 62 ∧
    decodeRequest .p 0b10011010_000000000000000000000000#32 = .newEvent .p .user 0 ∧
    decodeRequest .p 0b10011101_000000000000000000000000#32 = .timerUnlock .p .user ∧
    decodeRequest .p 0b10011101_000000000000000000000001#32 = .timerLock .p .user 1 ∧
    decodeRequest .p 0b10011111_000000000000000000000000#32 = .resetLink .p .user 0 := by decide

/-! ## One step of each command, with the result that the manual gives -/

-- chapter 10: the worked sequence of one request and its reply, and the rules named
theorem test_frame_31_edges_raises_link_error :
    leaves (.frameDiscarded .g 31) deck (fun t => t.ports.g.pending == 0x10000#18 && t.ports.p.pending == 0) = true := by
  decide +kernel
theorem test_bad_request_code_1 : refuses (.badRequest .p 0x0E000000#32) .p 1 deck = true := by decide +kernel
theorem test_nop_shifts_out_summary_and_reply :
    leaves (.nop .g .user 0) (tape .play) (fun t => t.ports.g.outgoing == 0x05000000#32) = true := by decide +kernel
theorem test_play_at_automatic_rank_under_user :
    refuses (.play .g .automatic 0) .g 3 (holding (.user .p) (tape .still)) = true := by decide +kernel
theorem test_take_reports_gauge :
    leaves (.take .g .user 0x3FFFF)
      { deck with ports := { deck.ports with g := { deck.ports.g with pending := 0x20, attention := true } } }
      (fun t => t.ports.g.reply == accepted 0x20 && t.ports.g.pending == 0 && !t.ports.g.attention) = true := by
  decide +kernel
theorem test_mask_deasserts_attention :
    leaves (.writeMask .p .user 0 0x3FFFF)
      { deck with ports := { deck.ports with p := { deck.ports.p with pending := 1, attention := true } } }
      (fun t => t.ports.p.mask == 0x3FFFF#18 && !t.ports.p.attention) = true := by decide +kernel
theorem test_reset_link_keeps_other_link :
    leaves (.resetLink .g .user 0)
      { deck with
        ports := ⟨{ deck.ports.p with pending := 4, attention := true }, { deck.ports.g with pending := 4, attention := true }⟩ }
      (fun t => t.ports.p.pending == 4 && t.ports.g.pending == 0 && !t.ports.g.attention) = true := by decide +kernel
theorem test_link_status_second_word :
    leaves (.readLinkStatus .p .user 0) { deck with ports := { deck.ports with p := { deck.ports.p with mask := 5 } } }
      (fun t => (t.ports.p.readBuffer.map ReadBuffer.words) == some [0, 5, 0]) = true := by decide +kernel
theorem test_next_word_of_another_item :
    refuses (.readNextWord .p .user 5 1 0) .p 6 deck = true := by decide +kernel

-- chapter 1: ejecting while threading, a jam, wind overload
theorem test_play_threads :
    leaves (.play .p .user 0) (tape .parked)
      (fun t => t.transport.state == .threading && t.transport.intent == some .play && t.transport.holder == .user .p) =
      true := by decide +kernel
theorem test_eject_replaces_intent :
    leaves (.eject .g .user 0) (intending .play (holding (.user .p) (tape .threading)))
      (fun t => t.transport.state == .threading && t.transport.intent == some .eject && t.transport.holder == .user .g) =
      true := by decide +kernel
theorem test_threaded_switch_carries_eject :
    leaves .threadedSwitchCloses (intending .eject (holding (.user .g) (tape .threading)))
      (fun t => t.transport.state == .unthreading && t.outputs.threading == .outward) = true := by decide +kernel
theorem test_parked_switch_carries_eject :
    leaves (.parkedSwitchCloses true) (intending .eject (holding (.user .g) (tape .unthreading)))
      (fun t => t.transport.state == .ejecting && t.outputs.loading == .outward) = true := by decide +kernel
theorem test_parked_switch_reads_absent_tab :
    leaves (.parkedSwitchCloses false) { tape .inserting with settings := { Settings.factory with autoPlay := false } }
      (fun t => t.transport.state == .parked && t.transport.tab == .absent && t.gauge.active == some 4) = true := by
  decide +kernel
theorem test_cassette_switch_opens_empties :
    leaves .cassetteSwitchOpens (holding (.user .g) (counted 500 [100] (tape .ejecting)))
      (fun t => t.transport.state == .empty && t.transport.holder == .none && t.position.counter == 0 &&
        t.position.index == [] && t.ports.p.pending == 0x5#18) = true := by decide +kernel
theorem test_cassette_switch_closes_inserts :
    leaves .cassetteSwitchCloses deck (fun t => t.transport.state == .inserting && t.outputs.loading == .inward) = true := by
  decide +kernel
theorem test_insert_timeout_pushes_out :
    leaves .insertTimeout (tape .inserting) (fun t => t.transport.state == .ejecting) = true := by decide +kernel
theorem test_thread_timeout_reverses :
    leaves .threadTimeout (intending (.record (.link 2)) (tape .threading))
      (fun t => t.transport.state == .threading && t.outputs.threading == .outward) = true := by decide +kernel
theorem test_second_thread_timeout_jams :
    leaves .threadTimeout
      { tape .threading with transport := { (tape .threading).transport with motion := .threadSecond, holder := .user .p } }
      (fun t => t.transport.state == .fault && t.protection.faults.threadJam && t.transport.holder == .user .p) = true := by
  decide +kernel
theorem test_retry_delay_starts_second_attempt :
    leaves .threadRetryDelay
      { tape .threading with transport := { (tape .threading).transport with motion := .threadDelay } }
      (fun t => t.transport.motion == .threadSecond && t.outputs.threading == .inward) = true := by decide +kernel
theorem test_unthread_timeout_jams :
    leaves .unthreadTimeout (tape .unthreading) (fun t => t.transport.state == .fault && t.protection.faults.unthreadJam) =
      true := by decide +kernel
theorem test_eject_timeout_jams :
    leaves .ejectTimeout (tape .ejecting) (fun t => t.transport.state == .fault && t.protection.faults.ejectJam) = true := by
  decide +kernel
theorem test_clear_faults_unthreads :
    leaves (.clearFaults .p .user 0) (faulty ⟨true, false, false, false, false, false⟩ (tape .fault))
      (fun t => t.transport.state == .unthreading && t.transport.intent == some .parked &&
        t.protection.faults == Faults.none) = true := by decide +kernel
theorem test_clear_faults_keeps_overload_busy :
    leaves (.clearFaults .p .user 0)
      { tape .parked with protection := ⟨⟨false, false, false, false, true, false⟩, 9600⟩ }
      (fun t => t.protection.faults.windOverload && t.ports.p.reply == refusedWith 5) = true := by decide +kernel
theorem test_wind_load_overflows :
    leaves .windLoadTick { tape .fwind with protection := ⟨Faults.none, 9596⟩ }
      (fun t => t.protection.windLoad == 9600 && t.protection.faults.windOverload && t.transport.state == .unthreading) =
      true := by decide +kernel
theorem test_wind_load_falls :
    leaves .windLoadTick { tape .play with protection := ⟨Faults.none, 9600⟩ } (fun t => t.protection.windLoad == 9599) =
      true := by decide +kernel
theorem test_record_clamps_one_touch :
    leaves (.record .p .user 9) (tape .stop)
      (fun t => t.transport.state == .record && t.transport.oneTouch == some (240 * 36000) &&
        t.ports.p.reply == accepted 0x020008) = true := by decide +kernel
theorem test_record_without_tab :
    refuses (.record .p .user 0) .p 8
      { tape .stop with transport := { (tape .stop).transport with tab := .absent } } = true := by decide +kernel
theorem test_stop_releases_holder :
    leaves (.stop .p .user 0) (holding (.user .p) (tape .play))
      (fun t => t.transport.state == .stop && t.transport.holder == .none && t.outputs.brake) = true := by decide +kernel
theorem test_pause_toggles :
    leaves (.pause .p .user 0) (tape .record) (fun t => t.transport.state == .recPause && !t.outputs.recordEnable) = true := by
  decide +kernel
theorem test_cue_drives_seven :
    leaves (.cue .p .user 0) (tape .play) (fun t => t.outputs.capstan == .run .sp false 7) = true := by decide +kernel
theorem test_review_drives_reverse :
    leaves (.review .p .user 0) (tape .play) (fun t => t.outputs.capstan == .run .sp true 7) = true := by decide +kernel
theorem test_fwind_starts_bursts :
    leaves (.fwind .p .user 0) (tape .stop) (fun t => t.reels.burst == .bursting 1 true && t.outputs.reel == .forward) =
      true := by decide +kernel
theorem test_rwind_blocked_by_stall :
    refuses (.rwind .p .user 0) .p 9 (faulty ⟨false, false, false, true, false, false⟩ (tape .stop)) = true := by
  decide +kernel
theorem test_still_limit_stops :
    leaves .stillLimit (tape .still) (fun t => t.transport.state == .stop) = true := by decide +kernel
theorem test_rec_pause_limit_stops :
    leaves .recPauseLimit (tape .recPause) (fun t => t.transport.state == .stop) = true := by decide +kernel
theorem test_stop_threaded_limit_parks :
    leaves .stopThreadedLimit (tape .stop) (fun t => t.transport.state == .unthreading) = true := by decide +kernel
theorem test_one_touch_ends :
    leaves .oneTouchTimeRunsOut { tape .record with transport := { (tape .record).transport with oneTouch := some 1 } }
      (fun t => t.transport.state == .stop && t.transport.oneTouch == none) = true := by decide +kernel
theorem test_spin_up_timeout_latches :
    leaves .drumSpinUpTimeout { tape .play with transport := { (tape .play).transport with drum := .spinUp } }
      (fun t => t.protection.faults.drumFault && t.transport.state == .unthreading) = true := by decide +kernel
theorem test_lost_timeout_latches :
    leaves .drumLostTimeout { tape .play with transport := { (tape .play).transport with drum := .lost } }
      (fun t => t.protection.faults.drumFault) = true := by decide +kernel
theorem test_drum_lock_lost :
    leaves (.drumLockChange false) (tape .play) (fun t => t.transport.drum == .lost) = true := by decide +kernel
theorem test_speed_sense_followed :
    leaves (.speedSenseChange .ep) (tape .play) (fun t => t.transport.speed == .ep && t.outputs.capstan == .run .ep false 1) =
      true := by decide +kernel
theorem test_tape_end_rewinds :
    leaves (.tapeEndSensorActive true) (holding (.user .p) (tape .play))
      (fun t => t.transport.state == .rwind && t.ports.p.pending == 0x9#18) = true := by decide +kernel
theorem test_tape_start_stops :
    leaves (.tapeStartSensorActive true) (holding (.user .p) (tape .rwind))
      (fun t => t.transport.state == .stop && t.transport.holder == .none) = true := by decide +kernel

-- chapter 2: the display examples and the worked searches
theorem test_display_of_minus_26 : displayOf 25 (-26) = (true, 0, 0, 1) := by decide
theorem test_display_of_89999 : displayOf 25 89999 = (false, 0, 59, 59) := by decide
theorem test_search_counter_winds :
    leaves (.searchCounter .p .user 0x407530) (counted 1250 [] (tape .stop))
      (fun t => t.transport.state == .fwind && (t.position.search.map fun x => x.mode) == some (.target 30000)) = true := by
  decide +kernel
theorem test_search_pulse_at_250_cues :
    leaves (.controlTrackPulse false)
      (searching ⟨false, 0, .target 30000, some .forward, .wind, true, .user, .p⟩ (counted 29749 [] (tape .fwind)))
      (fun t => t.transport.state == .cue && t.position.counter == 29750) = true := by decide +kernel
theorem test_search_index_takes_second_candidate :
    leaves (.searchIndex .g .user 0xFFFFFE) (holding (.user .g) (counted 100000 [2000, 45000, 90000, 131500] (tape .play)))
      (fun t => t.transport.state == .rwind && (t.position.search.map fun x => x.mode) == some (.target 45000)) = true := by
  decide +kernel
theorem test_pulse_at_90001_turned_away :
    leaves (.controlTrackPulse true) (counted 90002 [90000] (tape .rwind))
      (fun t => t.position.counter == 90001 && t.position.index == [90000]) = true := by decide +kernel
theorem test_memory_stop_at_zero :
    leaves (.controlTrackPulse false)
      { tape .rwind with position := { (tape .rwind).position with counter := 1, memoryStop := true } }
      (fun t => t.transport.state == .stop && t.position.counter == 0) = true := by decide +kernel
theorem test_memory_stop_argument : refuses (.memoryStop .p .user 2) .p 2 deck = true := by decide +kernel
theorem test_reset_counter_shifts :
    leaves (.resetCounter .p .user 0) (counted 100 [40, 500] (tape .stop))
      (fun t => t.position.counter == 0 && t.position.index == [-60, 400]) = true := by decide +kernel
theorem test_track_goes_absent :
    leaves .trackStatusTimeout { tape .play with position := { (tape .play).position with trackPresent := true } }
      (fun t => !t.position.trackPresent) = true := by decide +kernel

-- chapter 3: the worked fractions and bursts
theorem test_fractions_at_the_limits :
    fractionOf 1024 4000 6000 = 2661 ∧ fractionOf 1024 2000 65535 = 0 ∧ fractionOf 1024 10000 3000 = 10000 := by decide
theorem test_take_up_pulse_ends_bursts :
    leaves (.reelPulse .takeUp 370)
      { tape .fwind with reels := { ReelMonitor.reset with supervised := some .takeUp, burst := .bursting 4 false } }
      (fun t => t.reels.burst == .full && t.reels.stallTimer == some 1000 && t.outputs.reel == .fullForward) = true := by
  decide +kernel
theorem test_eighth_burst_stalls :
    leaves .burstPartEnd
      { tape .fwind with reels := { ReelMonitor.reset with supervised := some .takeUp, burst := .bursting 8 false } }
      (fun t => t.protection.faults.reelStall && t.transport.state == .unthreading) = true := by decide +kernel
theorem test_stall_timer_stalls :
    leaves .stallTimerExpiry { tape .play with reels := { ReelMonitor.reset with stallTimer := some 3000 } }
      (fun t => t.protection.faults.reelStall) = true := by decide +kernel
theorem test_class_6_named :
    leaves (.setCassetteClass .p .user 0xC00) (tape .parked)
      (fun t => t.gauge.active == some 6 && t.ports.p.pending == 0) = true := by decide +kernel

-- chapter 4: two controllers setting the clock
theorem test_time_takes_snapshot :
    leaves (.readTime .p .user) (clocked ⟨2003, 10, 26⟩ ⟨23, 59, 58⟩ deck)
      (fun t => t.clock.snapshot.p == some ⟨⟨2003, 10, 26⟩, ⟨23, 59, 58⟩⟩) = true := by decide +kernel
theorem test_date_returns_snapshot :
    leaves (.readDate .p .user)
      { deck with clock := { deck.clock with
          now := ⟨⟨2003, 10, 27⟩, ⟨0, 0, 0⟩⟩, snapshot := ⟨some ⟨⟨2003, 10, 26⟩, ⟨23, 59, 58⟩⟩, none⟩ } }
      (fun t => t.ports.p.reply.data == 7#0 ++ 13#7 ++ 10#4 ++ 26#5 ++ 6#3 ++ 0#5 && t.clock.snapshot.p == none) = true := by
  decide +kernel
theorem test_no_29_february_2003 : refuses (.setDate .p .user 0x001A5D) .p 2 deck = true := by decide +kernel
theorem test_set_time_0815 :
    leaves (.setTime .p .user 0x0083C0) (clocked ⟨2003, 10, 27⟩ ⟨0, 0, 1⟩ deck)
      (fun t => t.now == 7268175 && t.ports.p.pending == 0x40#18) = true := by decide +kernel
theorem test_mains_cycle_rolls_the_day :
    leaves .mainsCycle (ticking (clocked ⟨2003, 10, 26⟩ ⟨23, 59, 59⟩ deck)) (fun t => t.now == 5047 * 1440) = true := by
  decide +kernel
theorem test_crystal_tick_not_on_mains :
    leaves .crystalTick deck (fun t => t.clock.subSecond == 0) = true := by decide +kernel

-- chapter 5: the worked dividers, stations and trims
theorem test_worked_dividers :
    [55250, 175250, 503250, 503260, 503275].map dividerOf = [some 1883, some 4283, some 10843, some 10843, some 10844] := by
  decide
theorem test_select_preset_applies :
    leaves (.selectPreset .p .user 5) { viewing deck with tuner := Tuner.reset }
      (fun t => t.outputs.tunerWord == some 4283 && t.tuner.lock == .settling && t.tuner.holder == .viewUser .p) = true := by
  decide +kernel
theorem test_tune_step_saturates :
    leaves (.tuneStep .p .user 40) (viewing deck)
      (fun t => (t.preset 5).fine == 31 && !(t.preset 5).aft && t.ports.p.reply == accepted 0x02001F) = true := by
  decide +kernel
theorem test_search_station_steps_20 :
    leaves (.searchStation .p .user 0) (viewing deck)
      (fun t => t.outputs.tunerWord == some 4303 && t.tuner.lock == .settling) = true := by decide +kernel
theorem test_search_store_starts_at_1658 :
    leaves (.searchStore .g .automatic 44000) deck
      (fun t => t.outputs.tunerWord == some 1658 && t.tuner.holder == .search .automatic .g) = true := by decide +kernel
theorem test_search_step_centres_on_low :
    leaves (.searchStepEnd true true .low)
      { deck with tuner := { Tuner.reset with
          holder := .search .automatic .g, present := true, source := .search,
          search := some ⟨true, false, .seek, 1878, none, 0, 11, 0, none, none, .automatic, .g⟩
          retrySpent := true } }
      (fun t => t.outputs.tunerWord == some 1879 && t.tuner.lock == .settling && t.tuner.retrySpent == false &&
        t.ports.p.pending == 0) = true := by decide +kernel
theorem test_synth_lock_lost :
    leaves (.synthLockChange false) (viewing deck) (fun t => t.tuner.lock == .lost && !t.receiver.live) = true := by
  decide +kernel
theorem test_settling_timeout_loses :
    leaves .settlingTimeout { deck with tuner := { Tuner.reset with present := true, lock := .settling } }
      (fun t => t.tuner.lock == .lost) = true := by decide +kernel
theorem test_aft_window_steps_down_on_high :
    leaves (.aftWindow .high) (viewing deck) (fun t => t.tuner.correction == -1 && t.outputs.tunerWord == some 4282) = true := by
  decide +kernel
theorem test_capture_takes_applied_divider :
    leaves (.capture .p .user 0) (viewing deck)
      (fun t => t.ports.p.presetWork.record.divider == 4283 && t.ports.p.presetWork.record.stored) = true := by decide +kernel
theorem test_frequency_reply_carries_divider :
    leaves (.writePresetWorkRecordField .p .user 2 55250) deck (fun t => t.ports.p.reply == accepted (2#4 ++ 1883#20)) =
      true := by decide +kernel
theorem test_fetch_preset_61 : refuses (.fetchPreset .p .user 61) .p 2 deck = true := by decide +kernel
theorem test_store_preset_unfetched : refuses (.storePreset .p .user 0) .p 6 deck = true := by decide +kernel

-- chapter 6: a packet's bytes
theorem test_start_byte_begins :
    leaves (.dataSlicerByte 0xA7 true) (viewing deck) (fun t => t.receiver.state == .collectLength) = true := by decide +kernel
theorem test_prog_packet_is_queued :
    leaves (.dataSlicerByte 15 true)
      { viewing deck with receiver := { Receiver.reset with
          live := true, state := .collect, collecting := some ⟨some 7, [0x3C, 0x1C, 0x32, 14, 6, 20]⟩ } }
      (fun t => t.receiver.labels == [.prog 0x1C3 14 6 20 15 .pending] && t.ports.p.pending == 0x200#18) = true := by
  decide +kernel
theorem test_quiet_seeks_start :
    leaves .quietTimerExpiry { deck with receiver := { Receiver.reset with live := true, quietTimer := true } }
      (fun t => t.receiver.state == .seekStart) = true := by decide +kernel
theorem test_gap_times_out :
    leaves .gapTimerExpiry
      { viewing deck with receiver := { Receiver.reset with
          live := true, state := .collect, gapTimer := true, collecting := some ⟨some 7, [0x3C]⟩ } }
      (fun t => t.receiver.lastReason == .timeout && t.receiver.state == .seekIdle) = true := by decide +kernel
theorem test_label_read_moves_packet :
    leaves (.readLabel .p .user)
      { deck with receiver := { Receiver.reset with labels := [.prog 0x1C3 14 6 20 15 .pending, .prog 0x1C3 14 6 20 15 .running] } }
      (fun t => t.ports.p.reply.data == 1#1 ++ 0#1 ++ 0x1C3#12 ++ 2#2 ++ 1#2 ++ 0#6 &&
        t.receiver.readOut.p == some (.prog 0x1C3 14 6 20 15 .pending)) = true := by decide +kernel
theorem test_label_second_part :
    leaves (.readLabelSecondPart .p .user)
      { deck with receiver := { Receiver.reset with readOut := ⟨some (.prog 0x1C3 14 6 20 15 .pending), none⟩ } }
      (fun t => t.ports.p.reply.data == 1#1 ++ 14#5 ++ 6#4 ++ 20#5 ++ 15#6 ++ 0#3 && t.receiver.readOut.p == none) = true := by
  decide +kernel

-- chapters 7 and 8: two controllers and a recording in progress
theorem test_fetch_event_copies_version :
    leaves (.fetchEvent .p .user 3) (slotted 3 daily deck)
      (fun t => t.ports.p.eventWork.version == 17 && t.ports.p.eventWork.defn == daily) = true := by decide +kernel
theorem test_write_stop_minute :
    leaves (.writeEventWorkRecordField .p .user 5 1260) deck (fun t => t.ports.p.eventWork.defn.stop == 1260) = true := by
  decide +kernel
theorem test_store_event_stale :
    refuses (.storeEvent .p .user 0) .p 10
      { slotted 3 daily deck with ports := { deck.ports with p := { deck.ports.p with eventWork :=
          { deck.ports.p.eventWork with origin := .fetched, slot := some 3, version := 16, fetchedInUse := true } } } } =
      true := by decide +kernel
theorem test_new_event_takes_lowest_free :
    leaves (.newEvent .p .user 0)
      { slotted 0 daily (viewing (clocked ⟨2004, 3, 9⟩ ⟨19, 0, 0⟩ deck)) with
        ports := { deck.ports with p := { deck.ports.p with eventWork :=
          { deck.ports.p.eventWork with origin := .new, defn := { daily with start := 60, stop := 120 } } } } }
      (fun t => t.ports.p.reply == accepted 0x020001 && (t.slots.getD 1 .factory).inUse) = true := by decide +kernel
theorem test_delete_free_slot : refuses (.deleteEvent .p .user 3) .p 12 deck = true := by decide +kernel
theorem test_watch_begins_two_minutes_ahead :
    leaves .mainsCycle (ticking (clocked ⟨2004, 3, 9⟩ ⟨19, 27, 59⟩ (slotted 3 daily (viewing (tape .stop)))))
      (fun t => t.transport.holder == .timer && (t.slots.getD 3 .factory).version == 18 &&
        (t.slots.getD 3 .factory).lastServed == some 5181) = true := by decide +kernel
theorem test_lock_needs_clock :
    refuses (.timerLock .p .user 1) .p 13 (tape .parked) = true := by decide +kernel
theorem test_unlock :
    leaves (.timerUnlock .p .user) { deck with engine := { deck.engine with lock := true } } (fun t => !t.engine.lock) =
      true := by decide +kernel
theorem test_timer_off :
    leaves (.timerOnOff .p .user 0) deck (fun t => !t.engine.mode && !t.settings.timerOn) = true := by decide +kernel
theorem test_power_return_lowers :
    leaves .powerReturnTimerExpiry
      { tape .parked with engine := { Engine.reset with powerReturn := true }, power := { deck.power with raised := true } }
      (fun t => t.power.state == .standby && !t.power.raised) = true := by decide +kernel
theorem test_silence_falls_back :
    leaves .silenceTimerExpiry
      { tape .stop with
        engine := { Engine.reset with
          current := some { Occurrence.ofDue ⟨0, 0, 100, 200, .user⟩ with held := true, label := .matched, silence := true } } }
      (fun t => (t.engine.current.map fun o => o.label) == some .fallback) = true := by decide +kernel

-- chapter 9: switching off during play, the writer, the mains
theorem test_power_off_parks_first :
    leaves (.powerOff .p .user) (holding (.user .g) (tape .play))
      (fun t => t.power.pendingOff == some (.userOff .p) && t.transport.state == .unthreading) = true := by decide +kernel
theorem test_power_on_resets_guide :
    leaves (.powerOn .p .user 1) (standby .parked)
      (fun t => t.power.state == .on && t.outputs.relay && t.ports.g.pending == 0x4000#18) = true := by decide +kernel
theorem test_store_ack_takes_next_area :
    leaves .storeWriteAck
      { deck with store := { Store.reset with writer := some (.presets factoryPresets), dirty := ⟨false, true, false, false⟩ } }
      (fun t => (t.store.writer.map AreaCopy.area) == some .events && t.ports.p.pending == 0) = true := by decide +kernel
theorem test_store_timeout_marks_failed :
    leaves .storeWriteTimeout
      { held .parked with store := { Store.reset with writer := some (.settings .factory) } }
      (fun t => t.store.failed.settings && t.store.dirty.settings && t.store.writer == none) = true := by decide +kernel
theorem test_setting_clamped :
    leaves (.writeSetting .p .user 10 99) deck (fun t => t.settings.labelLead == 30 && t.ports.p.reply == accepted (10#4 ++ 30#20)) =
      true := by decide +kernel
theorem test_mains_loss_holds :
    leaves .mainsLoss (tape .play) (fun t => t.power.state == .hold && t.transport.state == .stop && !t.outputs.relay) =
      true := by decide +kernel
theorem test_mains_restore_by_the_switches :
    leaves (.mainsRestore ⟨true, false, true, false, false⟩) (counted 7 [1] (held .stop))
      (fun t => t.power.state == .standby && t.transport.state == .unthreading && t.position.counter == 7) = true ∧
    leaves (.mainsRestore ⟨false, false, true, false, false⟩) (counted 7 [1] (held .stop))
      (fun t => t.transport.state == .empty && t.position.counter == 0 && t.position.index == []) = true := by
  decide +kernel
theorem test_cold_start_loads_defaults :
    leaves (.coldStart true ⟨false, false, false, false, false⟩ ⟨true, false, false, false⟩) (viewing deck)
      (fun t => t.store.defaults.presets && t.presets == factoryPresets && t.power.state == .standby) = true := by
  decide +kernel
theorem test_line_reset_keeps_clock :
    leaves (.lineReset ⟨true, true, true, false, false⟩) (clocked ⟨2004, 3, 9⟩ ⟨19, 0, 0⟩ (counted 77 [] (tape .play)))
      (fun t => t.clock.set && t.position.counter == 0 && t.transport.state == .parked) = true := by decide +kernel

-- the reads
theorem test_detail_of_play :
    leaves (.readTransportDetail .p .user 0) (holding (.user .g) (tape .play))
      (fun t => t.ports.p.reply.data == 5#4 ++ 9#4 ++ 2#2 ++ 1#2 ++ 0#2 ++ 0#2 ++ 0#2 ++ 0#1 ++ 0#5) = true := by decide +kernel
theorem test_faults_item :
    leaves (.readFaults .p .user 0) { tape .stop with protection := ⟨⟨false, false, false, false, true, false⟩, 9600⟩ }
      (fun t => t.ports.p.reply.data == 0b000010#6 ++ 9600#14 ++ 0#4) = true := by decide +kernel
theorem test_counter_item_of_minus_26 :
    leaves (.readCounter .p .user 0) (counted (-26) [] (tape .stop))
      (fun t => t.ports.p.reply.data == (-26 : BitVec 22) ++ 1#1 ++ 0#1) = true := by decide +kernel
theorem test_index_entry_32 : refuses (.readIndexListEntry .p .user 32) .p 2 deck = true := by decide +kernel
theorem test_gauge_seconds :
    leaves (.readGauge .p .user 1) { tape .stop with gauge := { Gauge.reset with estimate := .held, remainingSp := some 3831 } }
      (fun t => t.ports.p.reply.data == 1#1 ++ 3831#15 ++ 0#8) = true := by decide +kernel
theorem test_gauge_part_7 : refuses (.readGauge .p .user 7) .p 2 deck = true := by decide +kernel
theorem test_clock_part_5 : refuses (.readClockStatus .p .user 5) .p 2 deck = true := by decide +kernel
theorem test_tuner_part_6 : refuses (.readTunerStatus .p .user 6) .p 2 deck = true := by decide +kernel
theorem test_applied_preset :
    leaves (.readAppliedPreset .p .user 0) (viewing deck) (fun t => t.ports.p.reply.data == 1#1 ++ 5#6 ++ 0#17) = true := by
  decide +kernel
theorem test_receiver_part_3 : refuses (.readReceiverStatus .p .user 3) .p 2 deck = true := by decide +kernel
theorem test_event_field_16 : refuses (.readEventWorkRecordField .p .user 16) .p 2 deck = true := by decide +kernel
theorem test_preset_field_9 : refuses (.readPresetWorkRecordField .p .user 9) .p 2 deck = true := by decide +kernel
theorem test_timer_part_4 : refuses (.readTimerStatus .p .user 4) .p 2 deck = true := by decide +kernel
theorem test_stored_sums :
    State.reset.nv.presets.whole presetBytes = true ∧ State.reset.nv.events.whole eventBytes = true ∧
    State.reset.nv.settings.whole settingBytes = true ∧ State.reset.nv.classes.whole classBytes = true := by decide +kernel
theorem test_insertion_with_switch_off_parks :
    leaves (.parkedSwitchCloses true)
      { intending .play (tape .inserting) with power := { deck.power with pendingOff := some (.userOff .p) } }
      (fun t => t.transport.state == .parked && t.power.state == .standby) = true := by decide +kernel
theorem test_setting_18 : refuses (.readSettings .p .user 18) .p 2 deck = true := by decide +kernel

/-! ## States that meet the hypotheses of the statements -/

/-- Nothing else stands due, and the laws of the writer and of attention hold. -/
def Ready (s : State) : Prop := s.quiet ∧ s.undisturbed ∧ WriterLaw s ∧ AttentionLaw s

theorem engineAction_of_idle {s : State} (e : s.engine = Engine.reset) : engineAction s = none := by
  simp [engineAction, e, Engine.reset]

theorem ready_of {s : State} (e : s.engine = Engine.reset) (p : s.power.pendingOff = none) (w : s.store = Store.reset)
    (a : s.ports = State.reset.ports) : Ready s := by
  refine ⟨⟨by rw [e]; rfl, by rw [e]; rfl, p⟩, ⟨engineAction_of_idle e, p⟩,
    Or.inr (Or.inr fun x => by rw [w]; cases x <;> rfl), fun l => ?_⟩
  have q : s.port l = State.reset.port l := by cases l <;> simp [State.port, PerLink.get, a]
  rw [q]
  cases l <;> simp [State.reset, State.port, PerLink.get, Port.initial]

theorem tape_ready (t : TState) : Ready (tape t) := ready_of rfl rfl rfl rfl
theorem standby_ready (t : TState) : Ready (standby t) := ready_of rfl rfl rfl rfl
theorem held_ready (t : TState) : Ready (held t) := ready_of rfl rfl rfl rfl
theorem holding_ready (h : Holder) (t : TState) : Ready (holding h (tape t)) := ready_of rfl rfl rfl rfl
theorem intending_ready (i : Intent) (t : TState) : Ready (intending i (tape t)) := ready_of rfl rfl rfl rfl
theorem faulty_ready (f : Faults) (t : TState) : Ready (faulty f (tape t)) := ready_of rfl rfl rfl rfl
theorem viewing_ready : Ready (viewing deck) := ready_of rfl rfl rfl rfl

/-! ### Laws of every step -/

/-- PLAY waits in a parked deck. -/
def waiting : State := { standby .parked with pending := [.play .p .user 0] }

theorem witness_ResetIsAColdStart :
    let u := { tape .play with nv := State.reset.nv }
    u.nv = State.reset.nv ∧ u.store.writer = none ∧ u.pending = [] ∧ u.draws = 0 := ⟨rfl, rfl, rfl, rfl⟩

theorem waiting_steps : ∃ t, step waiting = .next t := ⟨_, rfl⟩

theorem waiting_consistent : Consistent waiting := by
  refine ⟨⟨(standby_ready .parked).2.2.2, (standby_ready .parked).2.2.1, ?_, ?_⟩, ?_, ?_, ?_, ?_, ?_, ?_, ?_⟩
  · unfold WindLoadLaw; decide +kernel
  · refine ⟨by decide +kernel, by decide +kernel, ?_, ?_⟩ <;> intro x <;> cases x <;> decide +kernel
  · unfold OutputsLaw; decide +kernel
  · unfold MechanismLaw; decide +kernel
  · unfold TunerLaw; decide +kernel
  · unfold UnitsLaw; decide +kernel
  · have c : waiting.engine.current = none := rfl
    have p : waiting.power = Power.reset := rfl
    have l : ∀ l : Link, (waiting.port l).outgoing = 0 ∧ (waiting.port l).frame = none := fun l => by cases l <;> exact ⟨rfl, rfl⟩
    simp [PowerLaw, c, p, l, Power.reset]
  · have c : waiting.engine.current = none := rfl
    have h : waiting.transport.holder = .none := rfl
    have k : waiting.tuner.holder = .none ∧ waiting.tuner.search = none := ⟨rfl, rfl⟩
    simp [HoldersLaw, c, h, k]
  · have l : waiting.engine.lock = false := rfl
    have i : waiting.transport.intent = none := rfl
    simp [LockLaw, l, i]

theorem witness_SafeKept : Safe waiting ∧ ∃ t, step waiting = .next t := ⟨waiting_consistent.1, waiting_steps⟩
theorem witness_ConsistentKept : Consistent waiting ∧ ∃ t, step waiting = .next t := ⟨waiting_consistent, waiting_steps⟩

/-! ### Chapter 10 -/

theorem witness_StepRunsFront : (tape .play).pending = [] := rfl

theorem witness_RequestWordsRoundTrip :
    (Instr.readNextWord .g .automatic 13 15 0xFFFFF).wf = true ∧
    encodeRequest (.readNextWord .g .automatic 13 15 0xFFFFF) = some (.g, 0x2DFFFFFF#32) := by decide

theorem witness_SilentWhileNotLiveOrHeld :
    (liveIn (standby .parked).power.state .g = false ∧ encodeRequest (.nop .g .user 7) = some (.g, 0x80000007#32)) ∧
    (held .stop).power.state = .hold ∧ AttentionLaw (held .stop) :=
  ⟨by decide, rfl, (held_ready .stop).2.2.2⟩

theorem witness_FramesAnswered :
    ({ deck with settings := { Settings.factory with guideRelays := false } } : State).settings.guideRelays = false ∧
    liveIn deck.power.state .g = true ∧ WriterLaw deck ∧ (31 ≠ 32 ∧ 33 ≠ 32) ∧ namesNothing 0x0E000000#32 = true ∧
    namesNothing 0x44000000#32 = true ∧ namesNothing 0xC1000000#32 = true :=
  ⟨rfl, rfl, (ready_of (s := deck) rfl rfl rfl rfl).2.2.1, by decide, by decide, by decide, by decide⟩

/-- A port whose read buffer holds one word of link status. -/
def buffered : State :=
  { tape .stop with ports := { deck.ports with p := { deck.ports.p with readBuffer := some ⟨13, 0, [1, 2, 3]⟩ } } }

theorem witness_PortRequestsAct :
    liveIn buffered.power.state .p = true ∧ WriterLaw buffered ∧ (3 : Selector) ≠ 0 ∧
    ((buffered.port .p).readBuffer = some ⟨13, 0, [1, 2, 3]⟩ ∧ ([1, 2, 3] : List Arg)[(2 : Selector).toNat]? = some 3) ∧
    ((buffered.port .p).readBuffer = some ⟨13, 0, [1, 2, 3]⟩ ∧ ([1, 2, 3] : List Arg).length < (3 : Selector).toNat + 1) ∧
    (∀ words : List Arg, (buffered.port .p).readBuffer ≠ some ⟨12, 0, words⟩) :=
  ⟨rfl, (tape_ready .stop).2.2.1, by decide, ⟨rfl, rfl⟩, ⟨rfl, by decide⟩, fun words h => by
    simp [buffered, State.port, PerLink.get] at h⟩

theorem witness_ResetLinkReturnsPort :
    (liveIn (standby .parked).power.state .p = true ∧ Ready (standby .parked)) ∧
    liveIn (tape .play).power.state .g = true ∧ Ready (tape .play) :=
  ⟨⟨rfl, standby_ready _⟩, rfl, tape_ready _⟩

theorem witness_PartsArePacked :
    (packPart [num 20 5, num 5 31])[0]? = some 0x00005F ∧ (packPart [num 20 5, num 5 31])[1]? = some 0x800000 := by decide

/-- The reads' hypotheses: every read needs a live link and the writer's law alone. -/
theorem witness_TapeItemsRead : liveIn (standby .parked).power.state .p = true ∧ WriterLaw (standby .parked) :=
  ⟨rfl, (standby_ready _).2.2.1⟩
theorem witness_ClockAndLabelItemsRead : liveIn (tape .play).power.state .g = true ∧ WriterLaw (tape .play) :=
  ⟨rfl, (tape_ready _).2.2.1⟩
theorem witness_UnitItemsRead : liveIn (viewing deck).power.state .p = true ∧ WriterLaw (viewing deck) :=
  ⟨rfl, viewing_ready.2.2.1⟩

/-! ### Chapter 1 -/

theorem witness_EnteringAState :
    TState.stop.motion = .atRest ∧ (TState.rwind.running = true ∧ (tape .stop).transport.state = .stop) := by decide

theorem witness_TransportRefusals :
    Ready (holding (.user .p) (tape .still)) ∧ liveIn (holding (.user .p) (tape .still)).power.state .g = true ∧
    transportRefusal (holding (.user .p) (tape .still)) (effectiveRank (holding (.user .p) (tape .still)) .g .automatic) .play =
      some 3 :=
  ⟨holding_ready _ _, rfl, by decide +kernel⟩

theorem witness_TransportMovesTaken :
    (∀ m ∈ directMoves, Ready (tape m.1) ∧ (tape m.1).transport.state = m.1 ∧ (tape m.1).power.state = .on ∧
      (tape m.1).position.search = none ∧ transportRefusal (tape m.1) (effectiveRank (tape m.1) .p .user) m.2.1 = none) ∧
    (∀ t ∈ [TState.play, .rwind, .stop, .parked, .empty], Ready (holding (.user .g) (tape t)) ∧
      (holding (.user .g) (tape t)).transport.intent = none ∧
      transportRefusal (holding (.user .g) (tape t)) (effectiveRank (tape t) .p .user) .stop = none) ∧
    (∀ m ∈ unchangedMoves, Ready (tape m.1) ∧
      transportRefusal (tape m.1) (effectiveRank (tape m.1) .p .user) m.2 = none) := by
  refine ⟨fun m h => ⟨tape_ready _, ?_⟩, fun t h => ⟨holding_ready _ _, ?_⟩, fun m h => ⟨tape_ready _, ?_⟩⟩
  · revert m; decide +kernel
  · revert t; decide +kernel
  · revert m; decide +kernel

theorem witness_IntentsAndEjectTaken :
    (∀ t ∈ [TState.parked, .inserting, .threading, .unthreading], Ready (tape t) ∧ (tape t).power.state = .on ∧
      (tape t).position.search = none ∧ (tape t).transport.holder ≠ .timer ∧
      transportRefusal (tape t) (effectiveRank (tape t) .p .user) (.record (.link (min (9 : Arg).toNat 8))) = none) ∧
    (∀ t ∈ [TState.threading, .unthreading], transportRefusal (tape t) (effectiveRank (tape t) .p .user) .stop = none) ∧
    (∀ t ∈ [TState.parked, .stop, .record, .inserting, .threading, .unthreading], Ready (tape t) ∧
      transportRefusal (tape t) (effectiveRank (tape t) .p .user) .eject = none) := by
  refine ⟨fun t h => ⟨tape_ready _, ?_⟩, by decide +kernel, fun t h => ⟨tape_ready _, ?_⟩⟩
  · revert t; decide +kernel
  · revert t; decide +kernel

theorem witness_RecordStartsAndResumes :
    (Ready (tape .stop) ∧ (tape .stop).position.search = none ∧
      transportRefusal (tape .stop) (effectiveRank (tape .stop) .p .user) (.record (.link (min (9 : Arg).toNat 8))) = none) ∧
    Ready (tape .recPause) ∧
    transportRefusal (tape .recPause) (effectiveRank (tape .recPause) .g .user) (.record (.link (min (0 : Arg).toNat 8))) = none ∧
    transportRefusal (tape .recPause) (effectiveRank (tape .recPause) .g .user) .pause = none :=
  ⟨⟨tape_ready _, by decide +kernel⟩, tape_ready _, by decide +kernel, by decide +kernel⟩

theorem witness_ClearFaultsRemoves :
    ∀ f ∈ [Faults.mk true false true false false false, .mk true false false false true false,
        .mk false false false true true false],
      ∀ t ∈ [TState.fault, .stop], Ready (faulty f (tape t)) ∧ (faulty f (tape t)).engine.lock = false ∧
        (faulty f (tape t)).position.search = none ∧
        holderTurnsAway (faulty f (tape t)).transport.holder (effectiveRank (faulty f (tape t)) .p .user) .play = false :=
  fun _ _ _ _ => ⟨faulty_ready _ _, rfl, rfl, rfl⟩

/-- A threading attempt whose motor is in a phase. -/
def attempting (m : MotionTimer) : State :=
  { tape .threading with transport := { (tape .threading).transport with motion := m } }

theorem witness_MechanismSwitchesAct :
    (Ready deck ∧ deck.power.state ≠ .hold ∧ deck.transport.state = .empty) ∧
    (∀ t ∈ [TState.inserting, .ejecting, .play], Ready (tape t) ∧ (tape t).transport.state = t ∧ t ≠ .empty) ∧
    (Ready (intending .parked (tape .unthreading)) ∧ Ready (tape .inserting) ∧ (tape .inserting).transport.intent = none ∧
      (tape .inserting).settings.autoPlay = true ∧ (tape .inserting).transport.holder = .none) ∧
    (Ready (intending .play (tape .unthreading)) ∧
      heldBack (enter .parked (intending .play (tape .unthreading))) Intent.play.target = false) ∧
    (Ready { intending .play (tape .unthreading) with pins := { Pins.reset with tapeEnd := true } } ∧
      heldBack (enter .parked { intending .play (tape .unthreading) with pins := { Pins.reset with tapeEnd := true } })
        Intent.play.target = true) ∧
    (Ready (attempting .threadReversal) ∧ Ready (attempting .threadSecond) ∧ Ready (tape .threading)) ∧
    (Ready (intending .cue (tape .threading)) ∧ heldBack (intending .cue (tape .threading)) Intent.cue.target = false) ∧
    (Ready (intending (.record (.link 8)) (tape .threading)) ∧
      heldBack (intending (.record (.link 8)) (tape .threading)) .record = false) ∧
    (Ready { intending .rwind (tape .threading) with pins := { Pins.reset with tapeStart := true } } ∧
      heldBack { intending .rwind (tape .threading) with pins := { Pins.reset with tapeStart := true } }
        Intent.rwind.target = true) := by
  refine ⟨⟨ready_of rfl rfl rfl rfl, by decide, rfl⟩, fun t h => ⟨tape_ready _, rfl, ?_⟩,
    ⟨intending_ready _ _, tape_ready _, rfl, rfl, rfl⟩, ⟨intending_ready _ _, by decide +kernel⟩,
    ⟨ready_of rfl rfl rfl rfl, by decide +kernel⟩,
    ⟨ready_of rfl rfl rfl rfl, ready_of rfl rfl rfl rfl, tape_ready _⟩, ⟨intending_ready _ _, by decide +kernel⟩,
    ⟨intending_ready _ _, by decide +kernel⟩, ⟨ready_of rfl rfl rfl rfl, by decide +kernel⟩⟩
  revert t; decide

theorem witness_MechanismTimersExpire :
    (∀ m ∈ [MotionTimer.threadFirst, .threadDelay, .threadSecond, .threadReversal], Ready (attempting m) ∧
      (attempting m).power.state ≠ .hold ∧ (attempting m).transport.motion = m) ∧
    ((tape .inserting).transport.motion = .insert ∧ (tape .unthreading).transport.motion = .unthread ∧
      (tape .ejecting).transport.motion = .eject) ∧
    ((tape .still).transport.limit = .still ∧ (tape .recPause).transport.limit = .recPause ∧
      (tape .stop).transport.limit = .stopThreaded) ∧
    (∃ s, Ready s ∧ s.transport.oneTouch ≠ none ∧ s.transport.state = .record) :=
  ⟨fun _ _ => ⟨ready_of rfl rfl rfl rfl, nofun, rfl⟩, ⟨rfl, rfl, rfl⟩, ⟨rfl, rfl, rfl⟩,
    { tape .record with transport := { (tape .record).transport with oneTouch := some 1 } },
    ready_of rfl rfl rfl rfl, by decide, rfl⟩

theorem witness_TapeSupervised :
    (∀ d ∈ [DrumPhase.spinUp, .lost], ∃ s, Ready s ∧ s.power.state ≠ .hold ∧ s.transport.drum = d ∧
      s.protection.faults.drumFault = false) ∧
    (Ready (tape .play) ∧ (tape .play).transport.state = .play ∧ (tape .play).transport.speed ≠ .lp) ∧
    (∀ n ∈ [9595, 9596], ∀ w ∈ [true, false], ∃ s, Ready s ∧ s.transport.state = .fwind ∧ s.protection.windLoad = n ∧
      s.protection.faults.windOverload = w) ∧
    (∀ b ∈ [Burst.bursting 1 true, .bursting 7 false, .bursting 8 false], ∃ s, Ready s ∧ s.transport.state = .rwind ∧
      s.reels.burst = b ∧ s.protection.faults.reelStall = false) ∧
    (∀ f ∈ [true, false], ∃ s, Ready s ∧ s.reels.stallTimer ≠ none ∧ s.transport.state.running = true ∧
      s.protection.faults.reelStall = f) :=
  ⟨fun d _ => ⟨{ tape .play with transport := { (tape .play).transport with drum := d } },
      ready_of rfl rfl rfl rfl, nofun, rfl, rfl⟩,
    ⟨tape_ready _, rfl, by decide⟩,
    fun n _ w _ => ⟨{ tape .fwind with protection := ⟨⟨false, false, false, false, w, false⟩, n⟩ },
      ready_of rfl rfl rfl rfl, rfl, rfl, rfl⟩,
    fun b _ => ⟨{ tape .rwind with reels := { ReelMonitor.reset with burst := b } },
      ready_of rfl rfl rfl rfl, rfl, rfl, rfl⟩,
    fun f _ => ⟨{ faulty ⟨false, false, false, f, false, false⟩ (tape .play) with
        reels := { ReelMonitor.reset with stallTimer := some 3000 } },
      ready_of rfl rfl rfl rfl, nofun, rfl, rfl⟩⟩

theorem witness_TapeEdgesStop :
    (Ready (holding (.user .p) (tape .play)) ∧ (holding (.user .p) (tape .play)).settings.autoRewind = true ∧
      (holding (.user .p) (tape .play)).transport.holder.ofLink = true) ∧
    (Ready (tape .record) ∧ (tape .record).transport.holder.ofLink = false) ∧ Ready (tape .review) ∧ Ready (tape .still) :=
  ⟨⟨holding_ready _ _, rfl, rfl⟩, ⟨tape_ready _, rfl⟩, tape_ready _, tape_ready _⟩

/-! ### Chapter 2 -/

theorem counted_ready (n : Int) (m : List Int) (t : TState) : Ready (counted n m (tape t)) := ready_of rfl rfl rfl rfl
theorem searching_ready (x : Search) (n : Int) (t : TState) : Ready (searching x (counted n [] (tape t))) :=
  ready_of rfl rfl rfl rfl

theorem witness_PulseCounts :
    (Ready (tape .stop) ∧ (tape .stop).position.direction = .atRest) ∧
    (∀ n ∈ [(899999 : Int), -899999, 0], Ready (counted n [] (tape .fwind)) ∧
      (counted n [] (tape .fwind)).position.direction = (counted n [] (tape .fwind)).transport.state.motion ∧
      -boundOf (tape .fwind).settings.standard ≤ n ∧ n ≤ boundOf (tape .fwind).settings.standard) ∧
    (∃ s, Ready s ∧ s.position.memoryStop = true ∧ s.transport.state = .rwind ∧ s.position.counter = 1 ∧
      s.position.search = none) := by
  refine ⟨⟨tape_ready _, rfl⟩, fun n h => ⟨counted_ready _ _ _, rfl, ?_⟩,
    { tape .rwind with position := { (tape .rwind).position with counter := 1, memoryStop := true } },
    ready_of rfl rfl rfl rfl, rfl, rfl, rfl, rfl⟩
  revert n; decide

theorem witness_IndexListAdmits :
    (([100] : List Int).Pairwise (· < ·) ∧ ∃ e ∈ ([100] : List Int), (e - 125).natAbs ≤ 25) ∧
    (∀ e ∈ ([100] : List Int), 25 < (e - 126).natAbs) ∧
    (((List.range 32).map fun k => (100 * k : Int)).Pairwise (· < ·) ∧
      (∀ e ∈ (List.range 32).map fun k => (100 * k : Int), 25 < (e - 5000).natAbs) ∧
      32 ≤ ((List.range 32).map fun k => (100 * k : Int)).length) := by decide +kernel

/-- A deck in play near the counter's upper bound, a pulse to come. -/
def pulsing : State := { counted 899999 [0, 26, 899999] (tape .play) with pending := [.controlTrackPulse true] }

theorem witness_IndexListKept : IndexLaw pulsing ∧ ∃ t, step pulsing = .next t :=
  ⟨by unfold IndexLaw; decide +kernel, _, rfl⟩

theorem witness_CounterRequestsAct :
    (liveIn (counted 5 [1] (standby .parked)).power.state .p = true ∧ Ready (counted 5 [1] (standby .parked)) ∧
      (counted 5 [1] (standby .parked)).position.search = none) ∧
    (∀ n ∈ [(899999 : Int), 900000], Ready
        (searching ⟨false, 0, .target n, some .forward, .wind, true, .user, .p⟩ (counted 0 [] (tape .fwind))) ∧
      -boundOf .f25 ≤ n - 0) ∧
    (Ready (searching ⟨false, 0, .target 899999, some .forward, .wind, true, .user, .p⟩ (counted (-1) [] (tape .fwind))) ∧
      boundOf .f25 < 899999 - (-1) ∧ (tape .fwind).transport.state.running = true) ∧
    (liveIn (tape .empty).power.state .p = true ∧ Ready (tape .empty) ∧ (tape .empty).position.search = none ∧
      MechanismLaw (tape .empty)) := by
  refine ⟨⟨rfl, ready_of rfl rfl rfl rfl, rfl⟩, fun n h => ⟨searching_ready _ _ _, ?_⟩,
    ⟨searching_ready _ _ _, by decide, rfl⟩, rfl, tape_ready _, rfl, by unfold MechanismLaw; decide +kernel⟩
  revert n; decide

theorem witness_SearchesBegin :
    (liveIn (tape .empty).power.state .g = true ∧ Ready (tape .empty) ∧
      searchRefusal (tape .empty) .user true (some true) = some 7) ∧
    (∀ t ∈ [TState.parked, .stop, .play], Ready (counted 100 [] (tape t)) ∧
      (∀ target ∈ [(899999 : Int), -899999, 100], searchRefusal (counted 100 [] (tape t)) .user
        (decide (target.natAbs ≤ (boundOf .f25).natAbs)) (if target = 100 then none else some (decide (100 < target))) = none) ∧
      ∀ n ∈ [(20 : Int), -1], searchRefusal (counted 100 [] (tape t)) .user (decide (1 ≤ n.natAbs ∧ n.natAbs ≤ 20))
        (some (decide (0 < n))) = none) ∧
    ((0x000064 : Arg).extractLsb' 0 22).toInt = 100 ∧ (0x400064 : Arg).getLsbD 22 = true ∧
    ((0x400064 : Arg).extractLsb' 0 22).toInt = 100 ∧ (0x000064 : Arg).getLsbD 22 = false := by
  refine ⟨⟨rfl, tape_ready _, by decide +kernel⟩, fun t h => ⟨counted_ready _ _ _, ?_⟩, by decide⟩
  revert t; decide +kernel

theorem witness_SearchJudgedAfterPulse :
    (∀ n ∈ [(1251 : Int), 1252], Ready
        (searching ⟨false, 0, .target n, some .forward, .wind, true, .user, .p⟩ (counted 1000 [] (tape .fwind))) ∧
      (tape .fwind).position.pendingMark = false ∧
      (tape .fwind).protection.faults = ⟨false, false, false, false, false, false⟩ ∧
      (tape .fwind).pins.tapeEnd = false ∧ (tape .fwind).pins.tapeStart = false) ∧
    (∀ e ∈ [true, false], ∀ n ∈ [(1001 : Int), 1002],
      Ready (searching ⟨false, 0, .target n, some .forward, .approach, e, .user, .p⟩ (counted 1000 [] (tape .cue)))) ∧
    (∀ n ∈ [1, 2],
      Ready (searching ⟨true, 3, .counting n, some .forward, .wind, true, .user, .p⟩ (counted 1000 [] (tape .fwind)))) ∧
    ((1251 - 1001 : Int).natAbs ≤ 10 * framesOf .f25 ∧ ¬ (1252 - 1001 : Int).natAbs ≤ 10 * framesOf .f25) :=
  ⟨fun _ _ => ⟨searching_ready _ _ _, rfl, rfl, rfl, rfl⟩, fun _ _ _ _ => searching_ready _ _ _,
    fun _ _ => searching_ready _ _ _, by decide⟩

/-! ### Chapter 3 -/

theorem witness_FractionRoundsHalfUp :
    (150 ≤ 150 ∧ 150 ≤ 2500 ∧ 6 ≤ 6 ∧ 6 ≤ 65535) ∧ fractionOf 150 6 6 = 5000 ∧ fractionOf 2500 65535 6 = 10000 ∧
    fractionOf 1024 4000 6000 < 10000 := by decide

/-- Both rings full, the supply reference set: the sixth supply interval is to come. -/
def revolving (entries : Nat) : State :=
  { tape .play with
    reels :=
      { ReelMonitor.reset with
        supplyRing := [667, 667, 667, 667, 666, 666], takeUpRing := [1000, 1000, 1000, 1000, 1000, 1000],
        supplyRef := some 1000, takeUpRef := some 900, ringDirection := some .forward, supplyTaken := 5,
        supervised := some .takeUp, stallTimer := some 3000 }
    gauge := { Gauge.reset with active := some 6, entries := entries } }

theorem witness_ReelPulseTaken :
    (Ready (tape .stop) ∧ (tape .stop).outputs.reel = reelDriveOf (tape .stop).transport.state (tape .stop).reels.burst ∧
      (tape .stop).transport.state.motion = .atRest) ∧
    (∀ n ∈ [2, 3], Ready (revolving n) ∧ (revolving n).power.state ≠ .hold ∧
      (revolving n).outputs.reel = reelDriveOf (revolving n).transport.state (revolving n).reels.burst ∧
      (revolving n).transport.state.motion ≠ .atRest ∧ (revolving n).reels.supplyRef.isSome = true ∧
      ((revolving n).reels.supplyTaken + 1) % 6 = 0) ∧
    ((2 + 1) % 4 ≠ 0 ∧ (3 + 1) % 4 = 0) :=
  ⟨⟨tape_ready _, rfl, rfl⟩, fun _ _ => ⟨ready_of rfl rfl rfl rfl, nofun, rfl, nofun, rfl,
      (by decide : (5 + 1) % 6 = 0)⟩, by decide⟩

theorem witness_CassetteClassSet :
    liveIn (tape .parked).power.state .p = true ∧ Ready (tape .parked) ∧ (tape .parked).gauge.classes.length = 8 :=
  ⟨rfl, tape_ready _, rfl⟩

/-! ### Chapter 4 -/

theorem witness_CalendarCounts :
    (⟨1990, 1, 1⟩ : Date).valid = true ∧ (⟨2089, 12, 31⟩ : Date).valid = true ∧ (⟨2000, 2, 29⟩ : Date).valid = true ∧
    36524 < 36525 := by decide

theorem calm_of_none {u : State} (h : dueListOf u = []) : u.calm := by
  unfold State.calm
  rw [h]
  intro e x
  cases x

theorem none_stopped {s : State} (h : s.engine.due = []) (minute : Nat) : s.noneStoppedBy minute := by
  intro e x
  rw [h] at x
  cases x

theorem witness_TimebaseCounts :
    ((⟨2089, 12, 31⟩ : Date).valid = true ∧ (⟨⟨2089, 12, 31⟩, ⟨23, 59, 58⟩⟩ : DateTime) ≠ lastInstant) ∧
    (Ready (ticking deck) ∧ (ticking deck).power.state ≠ .hold ∧ (ticking deck).clock.source = .mains ∧
      (ticking deck).clock.source ≠ .crystal) ∧
    (∀ n ∈ [587, 588], Ready { deck with clock := { deck.clock with subSecond := n } }) ∧
    Ready (ticking (clocked ⟨2089, 12, 31⟩ ⟨23, 59, 59⟩ deck)) ∧
    (∀ x ∈ [(⟨⟨2003, 10, 26⟩, ⟨23, 59, 59⟩⟩ : DateTime), ⟨⟨2003, 10, 26⟩, ⟨12, 0, 59⟩⟩],
      Ready (ticking (clocked x.date x.time deck)) ∧ (nextSecond x).time.second = 0 ∧
      (ticking (clocked x.date x.time deck)).noneStoppedBy (epochMinute (nextSecond x)) ∧
      dueListOf { deck with clock := { deck.clock with set := true, now := nextSecond x } } = []) ∧
    (Ready { deck with clock := { deck.clock with source := .crystal } }) := by
  refine ⟨by decide, ⟨ready_of rfl rfl rfl rfl, nofun, rfl, nofun⟩, fun n h => ready_of rfl rfl rfl rfl,
    ready_of rfl rfl rfl rfl, fun x h => ⟨ready_of rfl rfl rfl rfl, ?_, none_stopped rfl _, ?_⟩, ready_of rfl rfl rfl rfl⟩
  · revert x; decide +kernel
  · revert x; decide +kernel

theorem witness_ClockSetByHand :
    liveIn (standby .parked).power.state .p = true ∧ Ready (standby .parked) ∧
    (standby .parked).clock.now = ⟨⟨1990, 1, 1⟩, ⟨0, 0, 0⟩⟩ ∧ (standby .parked).noneStoppedBy 1439 ∧
    dueListOf { standby .parked with clock := { (standby .parked).clock with
      set := true, now := ⟨⟨1990, 1, 1⟩, ⟨23, 59, 59⟩⟩ } } = [] ∧
    (0x017EFB : Arg).toNat < 131072 :=
  ⟨rfl, standby_ready _, rfl, none_stopped rfl _, by decide +kernel, by decide⟩

/-- Preset 5 viewed with a candidate 20 s old. -/
def hearing : State :=
  { viewing deck with clock := { deck.clock with
      set := true, now := ⟨⟨2003, 10, 26⟩, ⟨10, 0, 26⟩⟩, elapsed := 12060,
      candidate := some ⟨epochSecond ⟨⟨2003, 10, 26⟩, ⟨9, 0, 6⟩⟩, 4, 0x1C3, 0⟩ } }

theorem witness_BroadcastTimeJudged :
    deck.tuner.source = .none ∧ hearing.tuner.source = .preset 5 ∧
    (let p := hearing.presets.getD 4 .factory
     (hearing.settings.autoClock && p.stored && p.timeSource && (p.identity == none || p.identity == some 0x1C3)) = true) ∧
    (let u := epochSecond ⟨⟨2003, 10, 26⟩, ⟨9, 0, 26⟩⟩
     let k : Candidate := ⟨epochSecond ⟨⟨2003, 10, 26⟩, ⟨9, 0, 6⟩⟩, 4, 0x1C3, 0⟩
     hearing.clock.candidate = some k ∧ k.identity = 0x1C3 ∧ hearing.clock.elapsed ≤ k.elapsed + 360000 ∧
     (600 * ((u : Int) - k.utc) - ((hearing.clock.elapsed : Int) - k.elapsed)).natAbs ≤ 1200 ∧
     hearing.clock.now = dateTimeOf ((u : Int) + 900 * 4).toNat) ∧
    (viewing deck).clock.candidate = none ∧
    ((epochSecond ⟨⟨1990, 1, 1⟩, ⟨0, 14, 59⟩⟩ : Int) + 900 * -1 < 0) ∧
    (36525 * 86400 ≤ (epochSecond ⟨⟨2089, 12, 31⟩, ⟨23, 45, 0⟩⟩ : Int) + 900 * 1) := by decide +kernel

/-! ### Chapter 5 -/

theorem witness_DividerFromFrequency :
    43999 < 44000 ∧ 870000 < 870001 ∧ (44000 ≤ 44000 ∧ 44000 ≤ 870000) ∧ (44000 ≤ 870000 ∧ 870000 ≤ 870000) ∧
    (1658 ≤ 1658 ∧ 1658 ≤ 18178) ∧ (1658 ≤ 18178 ∧ 18178 ≤ 18178) := by decide

theorem witness_TunerRequestsAct :
    (Ready (standby .parked) ∧ tunerRefusal (standby .parked) .user false = some 15) ∧
    (liveIn (viewing deck).power.state .p = true ∧ Ready (viewing deck) ∧
      ((viewing deck).tuner.source.preset?.all fun m => decide (1 ≤ m ∧ m ≤ 60)) = true ∧
      tunerRefusal (viewing deck) .user false = none ∧ tunerRefusal (viewing deck) .user true = none ∧
      (viewing deck).tuner.search = none ∧ (viewing deck).tuner.present = true) ∧
    (∀ k ∈ [(63 : Int), -63], 1 ≤ k.natAbs ∧ k.natAbs ≤ 63) ∧
    (let s := { viewing deck with tuner := { (viewing deck).tuner with holder := .timer } }
     Ready s ∧ tunerRefusal s .user true = none ∧ s.tuner.source = .preset 5 ∧ 5 ≤ s.presets.length ∧
     (s.presets.getD 4 .factory).stored = true ∧ (s.presets.getD 4 .factory).aft = true) :=
  ⟨⟨standby_ready _, by decide +kernel⟩,
    ⟨rfl, viewing_ready, by decide +kernel, by decide +kernel, by decide +kernel, rfl, rfl⟩, by decide,
    ready_of rfl rfl rfl rfl, by decide +kernel, rfl, by decide +kernel, by decide +kernel, by decide +kernel⟩

theorem witness_StationSearchBegins :
    Ready (viewing deck) ∧ tunerRefusal (viewing deck) .automatic false = none ∧ (viewing deck).tuner.search = none ∧
    dividerOf (44000 : Arg).toNat = some 1658 ∧ dividerOf (43999 : Arg).toNat = none ∧
    ((viewing deck).presets.any fun p => !p.stored && p.name.isEmpty) = true ∧
    (({ deck with presets := List.replicate 60 { Preset.factory with stored := true } } : State).presets.any
      fun p => !p.stored && p.name.isEmpty) = false :=
  ⟨viewing_ready, by decide +kernel, rfl, by decide +kernel, by decide +kernel, by decide +kernel, by decide +kernel⟩

/-- A search for stations. -/
def hunting (x : StationSearch) : State :=
  { deck with tuner := { Tuner.reset with
      holder := .search x.rank x.link, present := true, source := .search, base := x.divider, divider := x.divider,
      search := some x } }

/-- A search record in a phase, its kind, divider, offset and steps. -/
def hunt (storing : Bool) (phase : StationPhase) (divider : Nat) (offset : Int) (steps : Nat) : StationSearch :=
  ⟨storing, false, phase, divider, if phase = .centre then some .high else none, offset, steps, 0, none,
    some ⟨.preset 5, 4283, 0, true⟩, .user, .p⟩

theorem hunting_ready (x : StationSearch) : Ready (hunting x) := ready_of rfl rfl rfl rfl

theorem witness_SearchStepsTaken :
    (∀ b ∈ [true, false], ∀ p ∈ [StationPhase.leave, .seek, .centre], ∀ d ∈ [1658, 18158, 18178],
      Ready (hunting (hunt b p d 0 824)) ∧ (hunting (hunt b p d 0 824)).power.state = .on ∧
      (hunting (hunt b p d 0 824)).tuner.search = some (hunt b p d 0 824) ∧ 824 < 825) ∧
    (∀ o ∈ [(15 : Int), 16], Ready (hunting (hunt false .centre 4283 o 12)) ∧
      (hunt false .centre 4283 o 12).reading = some .high) ∧
    (Ready (hunting (hunt true .centre 4283 0 12)) ∧
      (hunting (hunt true .centre 4283 0 12)).presets.findIdx? (fun p => !p.stored && p.name.isEmpty) = some (1 - 1) ∧
      (((hunting (hunt true .centre 4283 0 12)).presets.drop 1).any fun p => !p.stored && p.name.isEmpty) = true ∧
      ((hunting (hunt true .centre 4283 0 12)).presets.any fun p => p.stored) = false) ∧
    (Ready (hunting (hunt false .seek 18178 0 825)) ∧ (hunt false .seek 18178 0 825).steps = 825 ∧
      (hunt false .seek 18178 0 825).starting = some ⟨.preset 5, 4283, 0, true⟩) ∧
    (Ready { hunting (hunt false .seek 1658 0 825) with presets := (viewing deck).presets } ∧
      ((viewing deck).presets.getD 4 .factory).stored = true) ∧
    Ready (hunting { hunt false .seek 1658 0 825 with starting := none }) ∧
    Ready (hunting { hunt false .seek 1658 0 825 with starting := some ⟨.search, 4283, 0, true⟩ }) := by
  refine ⟨fun b _ p _ d _ => ⟨hunting_ready _, rfl, rfl, by decide⟩, fun o _ => ⟨hunting_ready _, rfl⟩,
    ⟨hunting_ready _, by decide +kernel, by decide +kernel, by decide +kernel⟩, ⟨hunting_ready _, rfl, rfl⟩,
    ⟨ready_of rfl rfl rfl rfl, by decide +kernel⟩, hunting_ready _, hunting_ready _⟩

/-- A tuner in a lock state with a correction. -/
def locking (k : LockState) (c : Int) (spent : Bool) : State :=
  { viewing deck with
    tuner := { (viewing deck).tuner with lock := k, correction := c, retrySpent := spent }
    receiver := { (viewing deck).receiver with live := k == .locked } }

theorem witness_LockSupervised :
    ∀ k ∈ [LockState.settling, .locked, .lost, .off], ∀ c ∈ [(0 : Int), -7, 7, -8, 8], ∀ b ∈ [true, false],
      Ready (locking k c b) ∧ (locking k c b).power.state = .on ∧ (locking k c b).tuner.search = none ∧
      (locking k c b).receiver.live = ((locking k c b).tuner.lock == .locked) ∧ (locking k c b).tuner.lock = k ∧
      (locking k c b).tuner.aft = true ∧ (locking k c b).pins.synthLock = false :=
  fun _ _ _ _ _ _ => ⟨ready_of rfl rfl rfl rfl, rfl, rfl, rfl, rfl, rfl, rfl⟩

/-- Link P's preset work record, fetched from preset 5. -/
def fetched (w : PresetWork) (s : State) : State :=
  { s with ports := { s.ports with p := { s.ports.p with presetWork := w } } }

theorem fetched_writes (w : PresetWork) : WriterLaw (fetched w (viewing deck)) :=
  Or.inr (Or.inr fun a => by cases a <;> rfl)

theorem witness_PresetWorkRecordActs :
    (liveIn (standby .parked).power.state .p = true ∧ WriterLaw (standby .parked)) ∧
    (let p := (viewing deck).presets.getD 4 .factory
     ∀ q ∈ [{ p with divider := 4300 }, { p with fine := 3 }, { p with skip := true }, Preset.factory, p],
       let s := fetched ⟨true, some 5, 0, q⟩ (viewing deck)
       WriterLaw s ∧ (s.port .p).presetWork.fetched = true ∧ (s.port .p).presetWork.number = some 5 ∧
       (s.presets.getD 4 .factory).version = (s.port .p).presetWork.version ∧ s.power.state = .on ∧
       s.tuner.search = none ∧ s.tuner.source = .preset 5) ∧
    (WriterLaw (fetched ⟨true, some 5, 9, .factory⟩ (viewing deck)) ∧ 0 ≠ 9) ∧
    WriterLaw (fetched ⟨false, none, 0, .factory⟩ (viewing deck)) := by
  refine ⟨⟨rfl, (standby_ready _).2.2.1⟩, fun q _ => ⟨fetched_writes _, rfl, rfl,
      (by decide +kernel : ((viewing deck).presets.getD 4 .factory).version = 0), rfl, rfl, rfl⟩,
    ⟨fetched_writes _, by decide⟩, fetched_writes _⟩

/-! ### Chapter 6 -/

/-- A live receiver in a state. -/
def receiving (r : Receiver) : State := { viewing deck with receiver := { r with live := true } }

theorem witness_BytesCollected :
    ∀ k ∈ [ReceiverState.seekIdle, .seekStart, .collectLength, .collect],
      ∀ c ∈ [some (Collecting.mk (some 7) []), some ⟨some 10, [0x5A]⟩, some ⟨some 12, [0x3C]⟩, none],
      Ready (receiving { Receiver.reset with state := k, collecting := c, gapTimer := true, quietTimer := true }) ∧
      (receiving { Receiver.reset with state := k, collecting := c, gapTimer := true, quietTimer := true }).receiver.live = true ∧
      Ready deck ∧ deck.receiver.live = false :=
  fun _ _ _ _ => ⟨ready_of rfl rfl rfl rfl, rfl, ready_of rfl rfl rfl rfl, rfl⟩

theorem witness_PacketsDelivered :
    (∀ c ∈ [some (Collecting.mk (some 7) [0x3C, 0x1C, 0x32, 31, 12, 23]),
        some ⟨some 10, [0x5A, 0x1C, 0x30, 99, 12, 31, 23, 59, 59]⟩],
      Ready (receiving { Receiver.reset with state := .collect, collecting := c }) ∧
      (receiving { Receiver.reset with state := .collect, collecting := c }).power.state = .on ∧
      (receiving { Receiver.reset with state := .collect, collecting := c }).receiver.collecting = c ∧
      (receiving { Receiver.reset with state := .collect, collecting := c }).tuner.source = .preset 5) ∧
    ((1 ≤ (12 : SlicerByte).toNat ∧ (31 : SlicerByte).toNat ≤ 31 ∧ (59 : SlicerByte).toNat ≤ 59) ∧
      ¬ (60 : SlicerByte).toNat ≤ 59 ∧ (56 : SlicerByte).toInt ≤ 56 ∧ ¬ (57 : SlicerByte).toInt ≤ 56) ∧
    5 ≤ (viewing deck).presets.length :=
  ⟨fun _ _ => ⟨ready_of rfl rfl rfl rfl, rfl, rfl, rfl⟩, by decide, by decide +kernel⟩

/-! ### Chapter 7 -/

theorem witness_WindowOfOccurrence :
    (0 < 1440 ∧ 1439 < 1440 ∧ 0 ≠ 1439) ∧ (⟨1990, 1, 1⟩ : Date).valid = true ∧ (⟨2089, 12, 31⟩ : Date).valid = true ∧
    ({ daily with start := 1439, stop := 0 } : EventDef).existsOn (dayNumber ⟨2089, 12, 31⟩) = false ∧
    ({ daily with start := 0, stop := 1439 } : EventDef).existsOn (dayNumber ⟨2089, 12, 31⟩) = true := by decide

theorem witness_ScheduleTaken :
    (daily.start < 1440 ∧ daily.stop < 1440 ∧ daily.nextDay (some 5180) 7461780 = some 5181 ∧
      ({ daily with date := .absent, rep := .once } : EventDef).nextDay none 0 = none) ∧
    (let s := slotted 3 daily (clocked ⟨2004, 3, 9⟩ ⟨19, 0, 0⟩ deck)
     s.engine.mode = true ∧ s.clock.set = true ∧ dueListOf s = [⟨3, 5181, 7461810, 7461855, .user⟩]) ∧
    deck.clock.set = false ∧
    (let s := slotted 4 { daily with start := 1200, stop := 1260 } (slotted 3 daily (clocked ⟨2004, 3, 9⟩ ⟨19, 0, 0⟩ deck))
     (∀ y ∈ s.slots, y.defn.start < 1440 ∧ y.defn.stop < 1440) ∧ ((flagged s).getD 3 .factory).conflict = true ∧
     ((flagged s).getD 5 .factory).conflict = false) := by decide +kernel

/-- A parked deck whose slot 3 has been served the day before. -/
def servedDeck : State :=
  { tape .parked with
    slots := State.reset.slots.set 3 { Slot.factory with inUse := true, defn := daily, lastServed := some 5180 } }

theorem witness_DueListKept :
    (DueLaw waiting ∧ ∃ t, step waiting = .next t ∧ t.power.state ≠ .hold) ∧
    leaves (.play .p .user 0) servedDeck (fun t => (t.slots.getD 3 .factory).inUse && (t.slots.getD 3 .factory).defn == daily) =
      true ∧
    servedDeck.slots[3]? = some { Slot.factory with inUse := true, defn := daily, lastServed := some 5180 } :=
  ⟨⟨⟨fun _ => .inl (by decide +kernel), nofun⟩, _, rfl, by decide +kernel⟩,
    by decide +kernel, by decide +kernel⟩

theorem witness_EventWorkEdited : liveIn (standby .parked).power.state .p = true ∧ WriterLaw (standby .parked) :=
  ⟨rfl, (standby_ready _).2.2.1⟩

/-- Link P's event work record. -/
def editing (w : EventWork) (s : State) : State :=
  { s with ports := { s.ports with p := { s.ports.p with eventWork := w } } }

/-- The work record of a slot's definition. -/
def worked (origin : EventOrigin) (slot : Option Nat) (version : Nat) (inUse : Bool) (e : EventDef) : EventWork :=
  ⟨origin, slot, version, inUse, e, none, none, none, false⟩

/-- Preset 5 stored, the clock at 19:00 of 2004-03-09, slot 3 in use. -/
def scheduled : State := slotted 3 daily (clocked ⟨2004, 3, 9⟩ ⟨19, 0, 0⟩ (viewing deck))

theorem idle_writes {s : State} (e : s.engine = Engine.reset) (p : s.power.pendingOff = none)
    (w : s.store = Store.reset) : s.quiet ∧ s.undisturbed ∧ WriterLaw s :=
  ⟨⟨by rw [e]; rfl, by rw [e]; rfl, p⟩, ⟨engineAction_of_idle e, p⟩, Or.inr (Or.inr fun x => by rw [w]; cases x <;> rfl)⟩

theorem calm_of_head {u : State} {e : DueEntry} (h : (dueListOf u).head? = some e) (k : u.now + leadOf u e < e.start) :
    u.calm := by
  unfold State.calm
  rw [h]
  intro x m
  cases List.mem_singleton.mp m
  exact k

theorem witness_EventsStoredAndDeleted :
    -- refused: not fetched, stale, incomplete, no preset, past
    (let s := editing (worked .none none 0 false daily) scheduled
     s.quiet ∧ s.undisturbed ∧ WriterLaw s ∧ (s.port .p).eventWork.origin ≠ .fetched) ∧
    (let s := editing (worked .fetched (some 3) 16 true daily) scheduled
     s.quiet ∧ s.undisturbed ∧ WriterLaw s ∧ (s.slots.getD 3 .factory).version ≠ (s.port .p).eventWork.version) ∧
    (definitionRefusal scheduled { daily with stop := 1170 } none = some 2 ∧
      definitionRefusal scheduled { daily with preset := 6 } none = some 16 ∧
      definitionRefusal scheduled { daily with rep := .once, date := .calendar ⟨2004, 3, 9⟩, start := 60, stop := 1140 } none =
        some 17) ∧
    -- stored unchanged, stored changed, created
    (let s := editing (worked .fetched (some 3) 17 true daily) scheduled
     s.quiet ∧ s.undisturbed ∧ WriterLaw s ∧ definitionRefusal s (asStored daily) none = none ∧
     (s.slots.getD 3 .factory).version = (s.port .p).eventWork.version ∧ asStored daily = (s.slots.getD 3 .factory).defn) ∧
    (let e := { daily with stop := 1260 }
     let u := slotChanged 3 { scheduled.slots.getD 3 .factory with defn := e } scheduled
     definitionRefusal scheduled e none = none ∧ 3 < scheduled.slots.length ∧ u.calm) ∧
    (let s := editing (worked .new none 0 false { daily with start := 60, stop := 120 }) scheduled
     let u := slotChanged 0 { Slot.factory with inUse := true, defn := { daily with start := 60, stop := 120 }, owner := some (.p, .user) } s
     s.quiet ∧ s.undisturbed ∧ WriterLaw s ∧ (s.slots.findIdx? fun x => !x.inUse) = some 0 ∧ u.calm) ∧
    (let s := { scheduled with slots := List.replicate 32 { Slot.factory with inUse := true, defn := daily } }
     (s.slots.findIdx? fun x => !x.inUse) = none) ∧
    -- deleted
    ((scheduled.slots.getD 3 .factory).inUse = true ∧ (scheduled.slots.getD 31 .factory).inUse = false ∧
      (slotChanged 3 Slot.factory scheduled).calm) := by
  refine ⟨⟨(idle_writes rfl rfl rfl).1, (idle_writes rfl rfl rfl).2.1, (idle_writes rfl rfl rfl).2.2, nofun⟩,
    ⟨(idle_writes rfl rfl rfl).1, (idle_writes rfl rfl rfl).2.1, (idle_writes rfl rfl rfl).2.2, by decide +kernel⟩,
    by decide +kernel,
    ⟨(idle_writes rfl rfl rfl).1, (idle_writes rfl rfl rfl).2.1, (idle_writes rfl rfl rfl).2.2, by decide +kernel⟩,
    ⟨by decide +kernel, by decide +kernel, by unfold State.calm; decide +kernel⟩,
    ⟨(idle_writes rfl rfl rfl).1, (idle_writes rfl rfl rfl).2.1, (idle_writes rfl rfl rfl).2.2, by decide +kernel,
      by unfold State.calm; decide +kernel⟩,
    by decide +kernel, ⟨by decide +kernel, by decide +kernel, by unfold State.calm; decide +kernel⟩⟩

/-- Slot 3's occurrence of 2004-03-09 in a phase. -/
def serving (p : Phase) : Occurrence :=
  { Occurrence.ofDue ⟨3, 5181, 7461810, 7461855, .user⟩ with phase := p, held := true }

/-- A deck with an occurrence current, under the TIMER holders. -/
def recording (o : Occurrence) (s : State) : State :=
  { holding .timer s with
    engine := { Engine.reset with current := some o }
    tuner := { s.tuner with holder := .timer } }

/-- At 19:30 less a count of the timebase, slot 3 watched or recording. -/
def running (o : Occurrence) (t : TState) (at_ : Time) : State :=
  recording o (ticking (slotted 3 daily (clocked ⟨2004, 3, 9⟩ at_ (viewing (tape t)))))

theorem running_writes (o : Occurrence) (t : TState) (at_ : Time) : WriterLaw (running o t at_) :=
  Or.inr (Or.inr fun a => by cases a <;> rfl)

theorem witness_EventsStoredAndDeleted_current :
    let s := running (serving .watch) .stop ⟨19, 28, 0⟩
    liveIn s.power.state .g = true ∧ s.undisturbed ∧ WriterLaw s ∧ s.engine.current = some (serving .watch) ∧
    (serving .watch).slot = 3 ∧ (serving .watch).orphan = false ∧ (s.slots.getD 3 .factory).inUse = true ∧
    effectiveRank s .g .automatic = .automatic :=
  ⟨rfl, ⟨by decide +kernel, rfl⟩, running_writes _ _ _, rfl, rfl, rfl, by decide +kernel, rfl⟩

/-! ### Chapter 8 -/

theorem witness_TimerModeAndLockSet :
    (Ready deck ∧ deck.engine.mode = true ∧ dueListOf { deck with engine := { deck.engine with mode := false } } = []) ∧
    (∀ t ∈ [TState.stop, .threading, .parked], Ready (clocked ⟨2004, 3, 9⟩ ⟨19, 0, 0⟩ (tape t)) ∧
      (clocked ⟨2004, 3, 9⟩ ⟨19, 0, 0⟩ (tape t)).engine.lock = false ∧
      (clocked ⟨2004, 3, 9⟩ ⟨19, 0, 0⟩ (tape t)).clock.set = true ∧
      (clocked ⟨2004, 3, 9⟩ ⟨19, 0, 0⟩ (tape t)).transport.tab = .present ∧
      (clocked ⟨2004, 3, 9⟩ ⟨19, 0, 0⟩ (tape t)).transport.holder = .none ∧
      (clocked ⟨2004, 3, 9⟩ ⟨19, 0, 0⟩ (tape t)).tuner.search = none) ∧
    Ready (clocked ⟨2004, 3, 9⟩ ⟨19, 0, 0⟩ (standby .parked)) ∧
    (∃ s, s.quiet ∧ WriterLaw s ∧ s.engine.lock = true ∧ s.engine.mode = true ∧ s.clock.set = true ∧
      s.transport.state = .parked ∧ s.transport.tab = .present ∧ s.transport.holder = .none) :=
  ⟨⟨ready_of rfl rfl rfl rfl, rfl, by decide +kernel⟩,
    fun _ _ => ⟨ready_of rfl rfl rfl rfl, rfl, rfl, rfl, rfl, rfl⟩, ready_of rfl rfl rfl rfl,
    { clocked ⟨2004, 3, 9⟩ ⟨19, 0, 0⟩ (standby .parked) with engine := { Engine.reset with lock := true } },
    ⟨rfl, rfl, rfl⟩, Or.inr (Or.inr fun a => by cases a <;> rfl), rfl, rfl, rfl, rfl, rfl, rfl⟩

/-- The power return timer running. -/
def returning (raised : Bool) (s : State) : State :=
  { s with engine := { s.engine with powerReturn := true }, power := { s.power with raised := raised } }

theorem witness_EngineTimersExpire :
    (∀ b ∈ [true, false], (returning b (tape .parked)).quiet ∧ WriterLaw (returning b (tape .parked)) ∧
      (returning b (tape .parked)).engine.powerReturn = true ∧ (returning b (tape .parked)).power.raised = b ∧
      (returning b (tape .parked)).transport.holder = .none ∧ (returning b (tape .parked)).tuner.search = none) ∧
    ((returning true (holding (.user .p) (tape .play))).quiet ∧
      (returning true (holding (.user .p) (tape .play))).transport.holder ≠ .none) ∧
    (Ready (tape .play) ∧ (tape .play).engine.powerReturn = false) ∧
    (∀ b ∈ [true, false],
      let o := { serving .watch with label := .matched, silence := b }
      (running o .stop ⟨19, 28, 0⟩).undisturbed ∧ (running o .stop ⟨19, 28, 0⟩).now < o.stop) ∧
    (let o := { serving .labelPaused with
       label := .matched, silence := true, startSent := true, actualStart := some ⟨⟨2004, 3, 9⟩, ⟨19, 30, 0⟩⟩,
       speed := some .sp }
     let s := running o .recPause ⟨19, 40, 0⟩
     s.undisturbed ∧ WriterLaw s ∧ s.engine.current = some o ∧ s.now < o.stop ∧ o.begun = true ∧
     s.transport.state = .recPause ∧ s.transport.tab = .present ∧ s.pins.tapeEnd = false ∧
     s.protection.faults.reelStall = false ∧ s.protection.faults.drumFault = false) := by
  refine ⟨fun b _ => ⟨⟨rfl, rfl, rfl⟩, Or.inr (Or.inr fun a => by cases a <;> rfl), rfl, rfl, rfl, rfl⟩,
    ⟨⟨rfl, rfl, rfl⟩, nofun⟩, ⟨tape_ready _, rfl⟩, fun b h => ⟨⟨?_, rfl⟩, ?_⟩,
    ⟨by decide +kernel, rfl⟩, running_writes _ _ _, rfl, by decide +kernel, rfl, rfl, rfl, rfl, rfl, rfl⟩
  · revert b; decide +kernel
  · revert b; decide +kernel

/-- A minute before the lead of slot 3's occurrence, at its last count. -/
def nearing (s : State) : State := ticking (slotted 3 daily (clocked ⟨2004, 3, 9⟩ ⟨19, 27, 59⟩ (viewing s)))

theorem witness_OccurrenceComesDueAndStarts :
    (∀ t ∈ [TState.parked, .stop, .play, .empty],
      let s := nearing (tape t)
      let next := secondOn 12 s
      Ready s ∧ s.clock.source = .mains ∧ 600 ≤ s.clock.subSecond + 12 ∧ s.clock.now ≠ lastInstant ∧
      next.clock.now.time.second = 0 ∧ s.noneStoppedBy next.now ∧
      (dueListOf next).head? = some ⟨3, 5181, 7461810, 7461855, .user⟩ ∧ 7461810 ≤ next.now + 2 ∧ next.now < 7461810 ∧
      s.slots[3]? = some { Slot.factory with inUse := true, defn := daily, owner := some (.p, .user), version := 17 } ∧
      s.transport.holder = .none ∧ s.tuner.holder = .none) ∧
    (let s := nearing (holding (.user .p) (tape .play))
     Ready s ∧ s.transport.holder = .user .p ∧ s.power.state = .on ∧ s.transport.state ≠ .record) ∧
    (Ready (nearing (standby .parked)) ∧ (nearing (standby .parked)).power.state = .standby) := by
  refine ⟨fun t h => ⟨ready_of rfl rfl rfl rfl, rfl, (by decide : 600 ≤ 588 + 12), ?_, ?_, none_stopped rfl _, ?_⟩,
    ⟨ready_of rfl rfl rfl rfl, rfl, rfl, nofun⟩, ready_of rfl rfl rfl rfl, rfl⟩
  · exact (by decide : (⟨⟨2004, 3, 9⟩, ⟨19, 27, 59⟩⟩ : DateTime) ≠ lastInstant)
  · exact (by decide : (nextSecond ⟨⟨2004, 3, 9⟩, ⟨19, 27, 59⟩⟩).time.second = 0)
  · revert t; decide +kernel

theorem witness_OccurrenceRunsItsCourse :
    (let s := running (serving .watch) .stop ⟨19, 29, 59⟩
     s.power.state = .on ∧ s.undisturbed ∧ WriterLaw s ∧ s.engine.current = some (serving .watch) ∧
     s.transport.holder = .timer ∧ s.clock.source = .mains ∧ s.position.search = none ∧
     s.noneStoppedBy (secondOn 12 s).now ∧ (serving .watch).start = (secondOn 12 s).now ∧
     startCheck s (serving .watch) = none) ∧
    (let s := { running (serving .watch) .stop ⟨19, 29, 59⟩ with pins := { Pins.reset with cassetteClosed := true, tapeEnd := true } }
     s.undisturbed ∧ WriterLaw s ∧ startCheck s (serving .watch) = some .tapeEnd) ∧
    (let o := { serving .recording with
       actualStart := some ⟨⟨2004, 3, 9⟩, ⟨19, 30, 0⟩⟩, speed := some .sp, startSent := true, recorded := 1619999 }
     let s := running o .record ⟨20, 14, 59⟩
     s.undisturbed ∧ WriterLaw s ∧ o.begun = true ∧ o.stop = (secondOn 12 s).now ∧ s.noneStoppedBy (secondOn 12 s).now) ∧
    (let s := intending .parked (running (serving .ending) .unthreading ⟨20, 15, 3⟩)
     s.undisturbed ∧ WriterLaw s ∧ s.transport.intent = some .parked ∧ s.tuner.holder = .timer ∧
     s.clock.correction = none ∧ s.noneStoppedBy s.now ∧
     dueListOf { s with slots := [], engine := { s.engine with current := none } } = []) := by
  refine ⟨⟨rfl, ⟨by decide +kernel, rfl⟩, running_writes _ _ _, rfl, rfl, rfl, rfl, none_stopped rfl _, by decide +kernel,
      by decide +kernel⟩,
    ⟨⟨by decide +kernel, rfl⟩, Or.inr (Or.inr fun a => by cases a <;> rfl), by decide +kernel⟩,
    ⟨⟨by decide +kernel, rfl⟩, running_writes _ _ _, rfl, by decide +kernel, none_stopped rfl _⟩,
    ⟨⟨by decide +kernel, rfl⟩, Or.inr (Or.inr fun a => by cases a <;> rfl), rfl, rfl, rfl, none_stopped rfl _,
      by decide +kernel⟩⟩

/-- The ending's last state is calm once the occurrence is gone: the next one of slot 3 starts a day later. -/
theorem witness_OccurrenceRunsItsCourse_calm :
    let s := intending .parked (running (serving .ending) .unthreading ⟨20, 15, 3⟩)
    { s with engine := { s.engine with current := none } }.calm := by
  unfold State.calm
  decide +kernel

theorem witness_UserStopAndLabels :
    (let o := { serving .recording with
       actualStart := some ⟨⟨2004, 3, 9⟩, ⟨19, 30, 0⟩⟩, speed := some .sp, startSent := true }
     let s := running o .record ⟨19, 45, 0⟩
     s.undisturbed ∧ WriterLaw s ∧ s.power.state = .on ∧ s.engine.lock = false ∧ s.transport.holder = .timer ∧
     effectiveRank s .p .user = .user ∧ s.engine.current = some o ∧ s.position.search = none) ∧
    (∀ k ∈ [Phase.watch, .recording, .labelPaused],
      let s := { running (serving k) .stop ⟨19, 31, 0⟩ with
        slots := (slotted 3 { daily with label := .on none } deck).slots }
      s.engine.current = some (serving k) ∧ (s.slots.getD 3 .factory).defn.label ≠ .off ∧
      s.tuner.source = .preset 5 ∧ (s.presets.getD 4 .factory).identity = some 0x1C3 ∧
      dateOf (serving k).day = ⟨2004, 3, 9⟩) := by
  refine ⟨⟨⟨by decide +kernel, rfl⟩, running_writes _ _ _, rfl, rfl, rfl, rfl, rfl, rfl⟩, fun k h => ⟨rfl, ?_, rfl, ?_, ?_⟩⟩
  · revert k; decide +kernel
  · revert k; decide +kernel
  · exact (by decide : dateOf 5181 = ⟨2004, 3, 9⟩)

/-! ### Chapter 9 -/

theorem witness_PowerRequested :
    (Ready (standby .parked) ∧ liveIn (standby .parked).power.state .p = true ∧ (2 : Arg) ≠ 0 ∧ (2 : Arg) ≠ 1) ∧
    (∃ s, s.quiet ∧ WriterLaw s ∧ s.engine.lock = true ∧ liveIn s.power.state .g = true) ∧
    (∀ t ∈ [TState.parked, .stop, .play, .threading, .unthreading, .inserting, .ejecting], Ready (tape t) ∧
      (tape t).engine.lock = false ∧ (tape t).position.search = none ∧ (tape t).tuner.search = none) ∧
    (Ready (holding .timer (tape .stop)) ∧ effectiveRank (holding .timer (tape .stop)) .g .automatic = .automatic) ∧
    ((standby .parked).transport.state = .parked ∧ transportRefusal (standby .parked) .user .play = none ∧
      (standby .parked).position.search = none ∧ (standby .parked).transport.holder ≠ .timer) ∧
    (Ready (standby .empty) ∧ (standby .empty).transport.state = .empty ∧ (standby .empty).gauge.estimate ≠ .current) :=
  ⟨⟨standby_ready _, rfl, by decide, by decide⟩,
    ⟨{ deck with engine := { Engine.reset with lock := true } }, ⟨rfl, rfl, rfl⟩,
      Or.inr (Or.inr fun a => by cases a <;> rfl), rfl, rfl⟩,
    fun _ _ => ⟨tape_ready _, rfl, rfl, rfl⟩, ⟨holding_ready _ _, rfl⟩, by decide +kernel, standby_ready _, rfl, nofun⟩

theorem witness_StoreAndSettingsWritten :
    (∀ c ∈ [AreaCopy.presets [], .events [], .settings .factory, .classes []],
      ({ deck with store := { Store.reset with writer := some c } } : State).store.writer = some c) ∧
    Ready (standby .parked) ∧ liveIn (standby .parked).power.state .p = true ∧ (14 : Selector) ≠ 15 ∧
    (standby .parked).position.search = none :=
  ⟨fun _ _ => rfl, standby_ready _, rfl, by decide, rfl⟩

theorem witness_MainsLostAndRestored :
    (∀ t ∈ [TState.play, .parked], Ready (tape t) ∧ (tape t).power.state ≠ .hold ∧ (tape t).position.search = none ∧
      (tape t).tuner.search = none) ∧
    (Ready (held .stop) ∧ (held .stop).power.state = .hold ∧ (held .stop).power.coldPending = false ∧
      (held .stop).engine.current = none ∧ (held .stop).power.pendingOff = none ∧
      (held .stop).noneStoppedBy (held .stop).now ∧ dueListOf (held .stop) = []) :=
  ⟨fun _ _ => ⟨tape_ready _, nofun, rfl, rfl⟩, held_ready _, rfl, rfl, rfl, rfl, none_stopped rfl _, by decide +kernel⟩

theorem witness_ColdStartAndLineReset :
    (Ready (held .stop) ∧ (held .stop).engine.current = none ∧ (held .stop).power.state = .hold) ∧
    (∀ t ∈ [TState.play, .empty], Ready (tape t) ∧ (tape t).engine.current = none ∧ (tape t).power.state ≠ .hold) ∧
    dueListOf { tape .play with engine := { Engine.reset with mode := (tape .play).settings.timerOn, lock := false } } = [] :=
  ⟨⟨held_ready _, rfl, rfl⟩, fun _ _ => ⟨tape_ready _, rfl, nofun⟩, by decide +kernel⟩

/-! ### An occurrence in progress -/

/-- What `State.serving` asks, in a form that is decided. -/
abbrev serves (s : State) (o : Occurrence) (x : Slot) : Prop :=
  s.power.state = .on ∧ engineAction s = none ∧ s.power.pendingOff = none ∧ s.store = Store.reset ∧
  s.engine.current = some o ∧ o.orphan = false ∧ s.slots[o.slot]? = some x ∧ x.inUse = true ∧ s.position.search = none

theorem serving_of {s : State} {o : Occurrence} {x : Slot} (h : serves s o x) : s.serving o x := by
  obtain ⟨a, b, c, d, e⟩ := h
  exact ⟨a, ⟨b, c⟩, Or.inr (Or.inr fun i => by rw [d]; cases i <;> rfl), e⟩

/-- The cases of a witness, each with what is asked of it beside `State.serving`. -/
theorem all_serving {P : State × Occurrence × Slot → Prop} {cases : List (State × Occurrence × Slot)}
    (h : ∀ c ∈ cases, serves c.1 c.2.1 c.2.2 ∧ P c) : ∀ c ∈ cases, c.1.serving c.2.1 c.2.2 ∧ P c :=
  fun c k => ⟨serving_of (h c k).1, (h c k).2⟩

/-- Slot 3 with a definition, and the daily one under label control. -/
def third (e : EventDef) : Slot := { Slot.factory with inUse := true, defn := e, owner := some (.p, .user), version := 17 }
def labelled : EventDef := { daily with label := .on none }

/-- An occurrence of slot 3 in progress on a tape at a time, at its last count of the second. -/
def inProgress (e : EventDef) (o : Occurrence) (t : TState) (at_ : Time) : State × Occurrence × Slot :=
  (recording o (ticking (slotted 3 e (clocked ⟨2004, 3, 9⟩ at_ (viewing (tape t))))), o, third e)

/-- The same with the state changed. -/
def but (f : State → State) (c : State × Occurrence × Slot) : State × Occurrence × Slot := (f c.1, c.2)

/-- A recording of slot 3 that began on time. -/
def recorded : Occurrence :=
  { serving .recording with
    actualStart := some ⟨⟨2004, 3, 9⟩, ⟨19, 30, 0⟩⟩, speed := some .sp, startSent := true, recorded := 36000 }

/-- One that waits for user P's tape. -/
def waits : Occurrence := { serving .waiting with held := false }

/-- User P plays a tape. -/
def played (s : State) : State := { holding (.user .p) s with tuner := { s.tuner with holder := .none } }

/-- An end of tape. -/
def atEnd (s : State) : State := { s with pins := { s.pins with tapeEnd := true } }

theorem witness_WaitingEnds :
    (∀ c ∈ [but played (inProgress daily waits .play ⟨19, 29, 0⟩), but played (inProgress daily waits .play ⟨19, 30, 0⟩)],
      c.1.serving c.2.1 c.2.2 ∧ c.1.now < c.2.1.stop ∧ c.1.engine.lock = false ∧ effectiveRank c.1 .p .user = .user ∧
      c.1.transport.state.running = true ∧ c.1.transport.intent = none ∧ c.1.tuner.search = none ∧
      c.1.tuner.holder = .none ∧ startCheck c.1 c.2.1 = none) ∧
    (∀ c ∈ [but played (inProgress daily waits .play ⟨20, 14, 59⟩)],
      c.1.serving c.2.1 c.2.2 ∧ c.1.minuteComes ∧ c.2.1.stop = (secondOn (cycleOf c.1) c.1).now ∧
      c.1.clock.correction = none ∧
      (withoutCurrent 3 (missedOutcome c.2.1 .busy) (secondOn (cycleOf c.1) c.1)).calm) := by
  unfold State.minuteComes State.noneStoppedBy State.calm
  refine ⟨all_serving ?_, all_serving ?_⟩ <;> decide +kernel

theorem witness_FallbackAtStart :
    ∀ c ∈ [inProgress labelled (serving .watch) .stop ⟨19, 29, 59⟩, but atEnd (inProgress labelled (serving .watch) .stop ⟨19, 29, 59⟩),
        inProgress labelled { serving .watch with labelsSeen := true } .stop ⟨19, 29, 59⟩,
        inProgress labelled { serving .watch with labelsSeen := true } .stop ⟨20, 14, 59⟩],
      c.1.serving c.2.1 c.2.2 ∧ c.1.minuteComes ∧ c.1.transport.holder = .timer ∧
      (c.2.1.start = (secondOn (cycleOf c.1) c.1).now ∧
          startCheck c.1 c.2.1 = (if c.1.pins.tapeEnd then some .tapeEnd else none) ∨
        c.2.1.stop = (secondOn (cycleOf c.1) c.1).now) := by
  unfold State.minuteComes State.noneStoppedBy
  refine all_serving ?_
  decide +kernel

theorem witness_MissedWithoutCassette :
    ∀ c ∈ [inProgress daily (serving .watch) .ejecting ⟨19, 29, 59⟩, inProgress daily (serving .watch) .empty ⟨20, 13, 59⟩],
      c.1.serving c.2.1 c.2.2 ∧ c.1.minuteComes ∧ c.1.tuner.holder = .timer ∧
      c.2.1.start ≤ (secondOn (cycleOf c.1) c.1).now ∧ (secondOn (cycleOf c.1) c.1).now < c.2.1.stop ∧
      (withoutCurrent 3 (missedOutcome c.2.1 .noCassette) (secondOn (cycleOf c.1) c.1)).calm := by
  unfold State.minuteComes State.noneStoppedBy State.calm
  refine all_serving ?_
  decide +kernel

/-- A matched recording, and one in its extension. -/
def matched : Occurrence := { recorded with label := .matched, silence := true }
def extended (e : Nat) : Occurrence := { matched with extension := some e }

/-- No extension. -/
def unextended (s : State) : State := { s with settings := { s.settings with extension := 0 } }

theorem witness_ExtensionTaken :
    ∀ c ∈ [inProgress labelled matched .record ⟨20, 14, 59⟩, but unextended (inProgress labelled matched .record ⟨20, 14, 59⟩),
        inProgress labelled (extended 7461915) .record ⟨21, 14, 59⟩, inProgress labelled (extended 7461915) .record ⟨21, 13, 59⟩,
        but unextended (inProgress labelled { matched with phase := .labelPaused, actualStart := none } .stop ⟨20, 14, 59⟩)],
      c.1.serving c.2.1 c.2.2 ∧ c.1.minuteComes ∧ c.1.noneStartedBy (secondOn (cycleOf c.1) c.1).now ∧
      (c.2.1.stop = (secondOn (cycleOf c.1) c.1).now ∨ (secondOn (cycleOf c.1) c.1).now ≤ c.2.1.extension.getD 0) := by
  unfold State.minuteComes State.noneStoppedBy State.noneStartedBy
  refine all_serving ?_
  decide +kernel

/-- Slot 5's occurrence of 20:15 to 21:00 heads the due list. -/
def followed (s : State) : State :=
  { s with
    slots := s.slots.set 5 { third daily with defn := { daily with start := 1215, stop := 1260 } }
    engine := { s.engine with due := [⟨5, 5181, 7461855, 7461900, .user⟩] } }

theorem witness_HandedOver :
    ∀ c ∈ [but followed (inProgress labelled matched .record ⟨20, 14, 59⟩),
        but followed (inProgress labelled (extended 7461915) .record ⟨20, 29, 59⟩),
        but (fun s => atEnd (followed s)) (inProgress labelled matched .record ⟨20, 14, 59⟩),
        but followed (inProgress labelled { matched with phase := .watch, actualStart := none } .inserting ⟨20, 14, 59⟩)],
      c.1.serving c.2.1 c.2.2 ∧ c.1.minuteComes ∧ c.1.slots[5]? = some { third daily with defn := { daily with start := 1215, stop := 1260 } } ∧
      7461855 ≤ (secondOn (cycleOf c.1) c.1).now ∧ (secondOn (cycleOf c.1) c.1).now < 7461900 ∧
      startCheck (secondOn (cycleOf c.1) c.1) (Occurrence.ofDue ⟨5, 5181, 7461855, 7461900, .user⟩) =
        (if c.1.pins.tapeEnd then some .tapeEnd else none) := by
  unfold State.minuteComes State.noneStoppedBy
  refine all_serving ?_
  decide +kernel

/-- The searches of an automatic controller, or a user's station search. -/
def sought (h : Holder) (r : Rank) (s : State) : State :=
  { s with
    transport := { s.transport with holder := h }
    position := { s.position with search := some ⟨false, 0, .target 30000, some .forward, .wind, true, .automatic, .p⟩ }
    tuner := { s.tuner with holder := .search r .p, search := some { hunt true .seek 5000 0 3 with rank := r } } }

theorem witness_TakesEndSearches :
    ∀ s ∈ [nearing (sought (.auto .p) .automatic (tape .fwind)), nearing (tape .play)],
      s.quiet ∧ s.store = Store.reset ∧ s.power.state = .on ∧ s.minuteComes ∧
      (dueListOf (secondOn (cycleOf s) s)).head? = some ⟨3, 5181, 7461810, 7461855, .user⟩ ∧
      7461810 ≤ (secondOn (cycleOf s) s).now + leadOf (secondOn (cycleOf s) s) ⟨3, 5181, 7461810, 7461855, .user⟩ ∧
      (secondOn (cycleOf s) s).now < 7461810 ∧ 3 < s.slots.length := by
  unfold State.quiet State.minuteComes State.noneStoppedBy
  decide +kernel

theorem witness_LabelsResumeAndEnd :
    ∀ c ∈ [inProgress labelled { recorded with phase := .labelPaused } .recPause ⟨19, 40, 0⟩,
        inProgress labelled { recorded with phase := .labelPaused } .stop ⟨19, 45, 0⟩,
        inProgress labelled { recorded with phase := .labelPaused } .parked ⟨19, 55, 0⟩,
        inProgress labelled matched .record ⟨19, 55, 0⟩,
        inProgress labelled { matched with actualStart := none, phase := .labelPaused, startSent := false } .recPause ⟨19, 55, 0⟩,
        inProgress labelled { matched with actualStart := none, phase := .labelPaused, startSent := false } .stop ⟨19, 55, 0⟩,
        inProgress labelled { matched with actualStart := none, phase := .labelPaused, startSent := false } .parked ⟨19, 55, 0⟩,
        inProgress labelled { matched with actualStart := none } .threading ⟨19, 55, 0⟩],
      c.1.serving c.2.1 c.2.2 ∧ c.1.transport.tab = .present ∧ c.1.pins.tapeEnd = false ∧
      c.1.protection.faults = Faults.none ∧ c.1.tuner.source = .preset 5 ∧
      (c.1.presets.getD 4 .factory).identity = some 0x1C3 ∧ dateOf c.2.1.day = ⟨2004, 3, 9⟩ ∧ c.1.transport.holder = .timer := by
  refine all_serving ?_
  decide +kernel

/-- All but the last byte of a PROG packet for 9 March, with its status code and hour: its minute is still to come. -/
def announced (status : SlicerByte) (hour : SlicerByte) (s : State) : State :=
  { s with receiver := { Receiver.reset with
      state := .collect, live := true, collecting := some ⟨some 7, [0x3C, 0x1C, 0x30 + status, 9, 3, hour]⟩ } }

theorem witness_LabelsDelivered :
    ∀ c ∈ [but (announced 2 19) (inProgress labelled (serving .watch) .stop ⟨19, 28, 0⟩),
        but (announced 0 18) (inProgress labelled (serving .watch) .stop ⟨19, 28, 0⟩),
        but (announced 0 19) (inProgress labelled (serving .watch) .stop ⟨19, 28, 0⟩),
        but (announced 0 19) (inProgress labelled matched .record ⟨19, 40, 0⟩),
        but (announced 1 19) (inProgress labelled matched .record ⟨19, 40, 0⟩),
        but (announced 3 19) (inProgress labelled matched .record ⟨19, 40, 0⟩),
        but (announced 0 21) (inProgress labelled matched .record ⟨19, 40, 0⟩)],
      c.1.serving c.2.1 c.2.2 ∧ c.1.receiver.live = true ∧ c.1.receiver.state = .collect ∧ c.1.tuner.source = .preset 5 ∧
      5 ≤ c.1.presets.length ∧ (c.1.presets.getD 4 .factory).identity = some 0x1C3 ∧
      16 * (0x1C : SlicerByte).toNat + (0x30 : SlicerByte).toNat / 16 = 0x1C3 ∧ dateOf c.2.1.day = ⟨2004, 3, 9⟩ ∧
      19 * 60 + (30 : SlicerByte).toNat = c.2.2.defn.start ∧ c.2.1.handover = false ∧ c.1.transport.holder = .timer ∧
      c.2.1.noted = none ∧ startCheck c.1 c.2.1 = none := by
  refine all_serving ?_
  decide +kernel

theorem witness_EngineTimersExpire_silence :
    ∀ c ∈ [inProgress labelled { matched with phase := .labelPaused, startSent := false, actualStart := none } .stop ⟨19, 40, 0⟩,
        inProgress labelled (extended 7461915) .record ⟨20, 30, 0⟩],
      c.1.serving c.2.1 c.2.2 ∧ startCheck c.1 c.2.1 = none ∧ c.2.1.silence = true ∧ c.2.1.noted = none ∧
      (c.1.now < c.2.1.stop ∧ c.2.1.begun = false ∨ c.2.1.stop ≤ c.1.now ∧ c.2.1.begun = true) := by
  refine all_serving ?_
  decide +kernel

/-- A timer of the transport or of the drum about to end. -/
def timing (m : MotionTimer) (l : LimitTimer) (d : DrumPhase) (s : State) : State :=
  { s with transport := { s.transport with motion := m, limit := l, drum := d }
           reels := { s.reels with stallTimer := some 3000 } }

theorem witness_OccurrenceDisturbed_mechanism :
    (∀ c ∈ [but (timing .stopped .stopped .lost) (inProgress daily recorded .record ⟨19, 40, 0⟩)],
      c.1.serving c.2.1 c.2.2 ∧ c.1.transport.drum = .lost ∧ c.1.reels.stallTimer ≠ none ∧
      c.1.protection.faults = Faults.none ∧ c.1.transport.holder = .timer) ∧
    (∀ c ∈ [but (timing .threadSecond .stopped .off) (inProgress daily { serving .recording with startSent := true } .threading ⟨19, 30, 5⟩),
        but (timing .threadSecond .stopped .off) (inProgress daily (serving .watch) .threading ⟨19, 28, 5⟩)],
      c.1.serving c.2.1 c.2.2 ∧ c.1.transport.motion = .threadSecond ∧ c.2.1.begun = false ∧ c.1.tuner.holder = .timer ∧
      c.1.clock.correction = none ∧ c.1.noneStoppedBy c.1.now ∧
      (withoutCurrent 3 (missedOutcome c.2.1 .fault) c.1).calm) ∧
    (∀ c ∈ [but (timing .stopped .recPause .locked) (inProgress daily recorded .recPause ⟨19, 40, 0⟩),
        but (timing .stopped .recPause .locked) (inProgress labelled { matched with phase := .labelPaused } .recPause ⟨19, 40, 0⟩),
        but (timing .stopped .stopThreaded .off) (inProgress daily (serving .watch) .stop ⟨19, 29, 0⟩)],
      c.1.serving c.2.1 c.2.2 ∧ c.1.transport.tab = .present ∧ c.1.pins.tapeEnd = false ∧
      c.1.protection.faults = Faults.none ∧ c.1.transport.limit ≠ .stopped) := by
  unfold State.noneStoppedBy State.calm
  refine ⟨all_serving ?_, all_serving ?_, all_serving ?_⟩ <;> decide +kernel

/-- The same after a loss of mains. -/
def powerless (s : State) : State :=
  { s with power := { Power.reset with state := .hold }, clock := { s.clock with source := .crystal } }

theorem witness_OccurrenceDisturbed_mains :
    ∀ c ∈ [but powerless (inProgress labelled { matched with phase := .labelPaused } .stop ⟨19, 40, 0⟩),
        but powerless (inProgress daily recorded .stop ⟨20, 14, 59⟩), but powerless (inProgress daily recorded .stop ⟨20, 15, 0⟩),
        but powerless (inProgress daily (serving .watch) .parked ⟨19, 29, 0⟩),
        but powerless (inProgress daily (serving .watch) .parked ⟨19, 30, 0⟩),
        but (fun s => powerless (played s)) (inProgress daily waits .stop ⟨19, 29, 0⟩)],
      c.1.power.state = .hold ∧ c.1.power.coldPending = false ∧ c.1.power.pendingOff = none ∧
      c.1.engine.current = some c.2.1 ∧ c.1.slots[3]? = some c.2.2 ∧ c.1.position.search = none ∧ c.1.tuner.search = none ∧
      c.1.noneStoppedBy c.1.now ∧ c.1.protection.faults = Faults.none ∧
      (c.1.presets.getD 4 .factory).stored = true ∧ c.2.1.startDue = false ∧ c.2.1.resumeDue = false ∧
      (c.2.1.stop ≤ c.1.now → (withoutCurrent 3 (partialOutcome c.1 c.2.1 .power) c.1).calm) := by
  unfold State.noneStoppedBy State.calm
  decide +kernel

theorem witness_OccurrenceDisturbed_resumes :
    ∀ c ∈ [but (intending .parked) (inProgress daily { recorded with resumeDue := true } .unthreading ⟨19, 40, 0⟩)],
      c.1.serving c.2.1 c.2.2 ∧ c.2.1.begun = true ∧ c.1.transport.intent = some .parked ∧ c.1.pins.tapeEnd = false ∧
      c.1.protection.faults = Faults.none := by
  refine all_serving ?_
  decide +kernel

/-- 20:20, 19:35 and 19:20 as SET_TIME gives them. -/
theorem witness_OccurrenceDisturbed_clock :
    (∀ c ∈ [inProgress daily (serving .watch) .stop ⟨19, 28, 0⟩, inProgress daily recorded .record ⟨19, 40, 0⟩,
        but played (inProgress daily waits .play ⟨19, 40, 0⟩)],
      c.1.serving c.2.1 c.2.2 ∧ c.1.clock.set = true ∧ startCheck c.1 c.2.1 = none ∧ c.1.clock.staged.get .p = none ∧
      (∀ t ∈ [(⟨20, 20, 0⟩ : Time), ⟨19, 35, 0⟩, ⟨19, 20, 0⟩], c.1.noneStoppedBy (epochMinute ⟨⟨2004, 3, 9⟩, t⟩)) ∧
      (withoutCurrent 3 (missedOutcome c.2.1 .clockStep)
        { c.1 with clock := { c.1.clock with now := ⟨⟨2004, 3, 9⟩, ⟨20, 20, 0⟩⟩ } }).calm) ∧
    (∀ a ∈ [((0x014500 : Arg), (⟨20, 20, 0⟩ : Time)), (0x0138C0, ⟨19, 35, 0⟩), (0x013500, ⟨19, 20, 0⟩)],
      (⟨(a.1.extractLsb' 12 5).toNat, (a.1.extractLsb' 6 6).toNat, (a.1.extractLsb' 0 6).toNat⟩ : Time) = a.2 ∧
      a.1.toNat < 131072) := by
  unfold State.noneStoppedBy State.calm
  refine ⟨all_serving ?_, ?_⟩ <;> decide +kernel

/-- A watch whose start, by the clock or by a RUNNING, waits for an insertion. -/
def inserting (label : LabelState) : State × Occurrence × Slot :=
  inProgress (if label = .none then daily else labelled) { serving .watch with startDue := true, label := label } .inserting ⟨19, 30, 1⟩

/-- Recordings in their extension, a label pause and watches whose start waits for an insertion, before a step back to 20:20,
past the stop, to 19:35, before it, or to 19:20, before the start. -/
theorem witness_OccurrenceDisturbed_stepBack :
    ∀ c ∈ [inProgress labelled (extended 7461915) .record ⟨20, 30, 0⟩,
        inProgress labelled { extended 7461915 with label := .fallback, silence := false } .record ⟨20, 30, 0⟩,
        inProgress labelled { matched with phase := .labelPaused } .recPause ⟨19, 40, 0⟩, inserting .none, inserting .matched],
      c.1.serving c.2.1 c.2.2 ∧ c.1.clock.set = true ∧ c.1.clock.staged.get .p = none ∧
      c.2.1.held = true ∧ c.1.transport.holder = .timer ∧ c.1.tuner.holder = .timer ∧
      (∀ t ∈ [(⟨20, 20, 0⟩ : Time), ⟨19, 35, 0⟩, ⟨19, 20, 0⟩], c.1.noneStoppedBy (epochMinute ⟨⟨2004, 3, 9⟩, t⟩)) := by
  unfold State.noneStoppedBy
  refine all_serving ?_
  decide +kernel

theorem test_step_back_before_the_stop_and_before_the_start :
    (leaves (.setTime .p .user 0x0138C0) (inProgress labelled (extended 7461915) .record ⟨20, 30, 0⟩).1
      (fun t => t.now == 7461815 && t.transport.state == .record &&
        t.engine.current.any fun o => o.phase == .recording && o.label == .matched && o.extension == none) = true ∧
    leaves (.setTime .p .user 0x014500) (inProgress labelled (extended 7461915) .record ⟨20, 30, 0⟩).1
      (fun t => t.now == 7461860 && t.engine.current.any fun o => o.extension == some 7461915) = true) ∧
    ∀ c ∈ [(LabelState.none, false), (.matched, true)],
      leaves (.setTime .p .user 0x013500) (inserting c.1).1
        (fun t => t.transport.state == .inserting &&
          t.engine.current.any fun o => o.phase == .watch && o.startDue == c.2) = true := by
  refine ⟨?_, ?_⟩ <;> decide +kernel

/-- Link P's work record holds slot 3's definition with another stop, or what else. -/
def reworked (e : EventDef) (s : State) : State := editing (worked .fetched (some 3) 17 true e) s

theorem witness_OccurrenceDisturbed_requests :
    ∀ c ∈ [but (reworked { daily with stop := 1220 }) (inProgress daily recorded .record ⟨19, 40, 0⟩),
        but (reworked { daily with stop := 1180 }) (inProgress daily recorded .record ⟨19, 40, 0⟩),
        but (reworked { daily with enabled := false }) (inProgress daily recorded .record ⟨19, 40, 0⟩),
        but (reworked { daily with speed := .lp }) (inProgress daily recorded .record ⟨19, 40, 0⟩)],
      c.1.serving c.2.1 c.2.2 ∧ c.1.engine.mode = true ∧ c.1.engine.lock = false ∧ effectiveRank c.1 .p .user = .user ∧
      (c.1.port .p).eventWork.origin = .fetched ∧ (c.1.port .p).eventWork.slot = some 3 ∧
      (c.1.port .p).eventWork.version = c.2.2.version ∧ c.2.1.slot < 32 ∧
      (c.1.presets.getD ((asStored (c.1.port .p).eventWork.defn).preset - 1) .factory).stored = true := by
  refine all_serving ?_
  decide +kernel

/-! ### Power and resets with more in progress -/

/-- A switch-off that waits. -/
def leaving (c : SwitchOff) (s : State) : State := { s with power := { s.power with pendingOff := some c } }

theorem witness_SwitchOffPends :
    ∀ s ∈ [leaving .lock (intending .parked (tape .unthreading)), leaving (.userOff .g) (tape .inserting),
        leaving .timerReturn (tape .ejecting), leaving (.userOff .p) (tape .unthreading)],
      s.power.state = .on ∧ s.engine.current = none ∧ s.engine.judgeDue = false ∧ s.store = Store.reset ∧
      s.position.search = none ∧ s.tuner.search = none ∧ s.engine.lock = false ∧
      (s.transport.state = .unthreading → s.transport.motion = .unthread) := by decide +kernel

theorem witness_PowerOffEndsOccurrence :
    ∀ c ∈ [inProgress daily recorded .record ⟨19, 40, 0⟩, but played (inProgress daily waits .play ⟨19, 40, 0⟩)],
      c.1.serving c.2.1 c.2.2 ∧ c.1.engine.lock = false ∧ effectiveRank c.1 .p .user = .user ∧
      c.1.clock.correction = none ∧ c.1.noneStoppedBy c.1.now ∧
      (withoutCurrent 3 ⟨.stoppedByUser, c.2.1.day, c.2.1.speed, minutesOf c.2.1.recorded⟩ c.1).calm := by
  unfold State.noneStoppedBy State.calm
  refine all_serving ?_
  decide +kernel

theorem witness_AcceptedRequestsReady :
    transportRefusal (standby .parked) .user (.record (.link 2)) = none ∧
    searchRefusal (counted 100 [] (standby .parked)) .user true (some true) = none ∧
    holderTurnsAway (faulty ⟨true, false, false, false, false, false⟩ (standby .fault)).transport.holder .user .play = false ∧
    (let s := { viewing deck with tuner := { (hunting (hunt false .seek 5000 0 3)).tuner with source := .preset 5 } }
     tunerRefusal s .user false = none ∧ tunerRefusal s .user true = none ∧ s.tuner.search ≠ none ∧
     (s.presets.getD 4 .factory).stored = true ∧ (dividerOf (44000 : Arg).toNat).isSome = true ∧
     s.presets.any (fun p => !p.stored && p.name.isEmpty) = true ∧
     (s.presets.take 60).any (fun p => p.stored && !p.skip) = true) ∧
    (searching ⟨false, 0, .target 30000, some .forward, .wind, true, .user, .p⟩ (tape .fwind)).power.state = .on := by
  decide +kernel

theorem witness_LineResetEndsOccurrence :
    ∀ c ∈ [inProgress daily recorded .record ⟨19, 40, 0⟩, inProgress daily (serving .ending) .unthreading ⟨20, 15, 3⟩,
        but played (inProgress daily waits .play ⟨19, 40, 0⟩)],
      c.1.power.state ≠ .hold ∧ c.1.store = Store.reset ∧ c.1.engine.current = some c.2.1 ∧ c.2.1.orphan = false ∧
      c.1.slots[3]? = some c.2.2 ∧
      (withoutCurrent 3 (partialOutcome c.1 c.2.1 .reset)
        { c.1 with engine := { c.1.engine with mode := c.1.settings.timerOn, lock := false } }).calm := by
  unfold State.calm
  decide +kernel

theorem witness_FirstMains :
    let s := { held .empty with power := { Power.reset with state := .hold, coldPending := true } }
    s.power.state = .hold ∧ s.power.coldPending = true ∧ s.engine.current = none ∧ s.engine.judgeDue = false ∧
    s.power.pendingOff = none ∧ s.protection.faults = Faults.none := by decide +kernel

theorem witness_ColdStarted_defaults :
    ({ deck with store := { Store.reset with writer := some (.settings .factory) } } : State).store.writer.any
      (fun c => c.area == .settings) = true ∧
    deck.store.writer = none ∧ deck.nv.settings.whole settingBytes = true ∧
    deck.nv.classes.whole classBytes = true := by decide +kernel

/-! ### What the statements of chapters 1, 2, 4 and 5 add -/

theorem witness_ClearFaultsRefused :
    (∀ l ∈ [Link.p], liveIn (standby .fault).power.state l = true ∧ effectiveRank (standby .fault) l .automatic = .automatic) ∧
    holderTurnsAway (Holder.user .p) .automatic .play = true ∧ holderTurnsAway Holder.timer .user .play = true ∧
    Ready (standby .fault) := ⟨by decide +kernel, rfl, rfl, standby_ready _⟩

theorem witness_ResetCounterBesideSearch :
    Ready (searching ⟨true, 3, .counting 2, some .forward, .wind, true, .user, .p⟩ (counted 5 [1] (tape .fwind))) ∧
    (∀ n ∈ [(899998 : Int), 899999],
      Ready (searching ⟨false, 0, .target n, none, .thread, true, .user, .p⟩ (counted (-1) [] (tape .threading)))) ∧
    (899998 - (-1) ≤ boundOf .f25 ∧ boundOf .f25 < 899999 - (-1)) :=
  ⟨ready_of rfl rfl rfl rfl, fun _ _ => ready_of rfl rfl rfl rfl, by decide⟩

theorem witness_ThreadedSearchBegins :
    ∀ i ∈ [Intent.stop, .play], ∀ m ∈ [SearchMode.target 100, .target 0, .counting 3], ∀ b ∈ [true, false],
      let s := intending i (searching ⟨b, 3, m, none, .thread, false, .user, .p⟩ (tape .threading))
      Ready s ∧ s.transport.motion = .threadFirst ∧ s.pins.tapeEnd = false ∧ s.pins.tapeStart = false :=
  fun _ _ _ _ _ _ => ⟨ready_of rfl rfl rfl rfl, rfl, rfl, rfl⟩

theorem witness_ClockRunsInHold :
    ∀ t ∈ [(⟨23, 59, 59⟩ : Time), ⟨12, 0, 59⟩], ∀ n ∈ [598, 599],
      let s := { held .stop with clock := { Clock.reset with source := .crystal, subSecond := n, now := ⟨⟨2003, 10, 26⟩, t⟩ } }
      s.power.state = .hold ∧ s.power.pendingOff = none ∧ s.clock.source = .crystal ∧ s.transport.state ≠ .record ∧
      s.clock.now ≠ ⟨⟨2089, 12, 31⟩, ⟨23, 59, 59⟩⟩ := by decide +kernel

/-- A table with stations at 5000 and at 18170, and some presets vacant. -/
def stocked (vacant : Nat) (x : StationSearch) : State :=
  { hunting x with
    presets := List.replicate (60 - vacant) { Preset.factory with stored := true, divider := 5000 } ++
      List.replicate vacant Preset.factory }

/-- The last step of a STATION search in each phase, what it tests and the divider that it writes, and steps of a STORE search
beyond the 826th. -/
theorem witness_SearchStepsTaken_late :
    (∀ c ∈ [(hunt false .leave 18178 0 825, true, AftLine.high, 1658, 1658), (hunt false .leave 4283 0 825, false, .low, 4283, 4283),
        (hunt false .seek 1658 0 825, false, .low, 1678, 1678), (hunt false .seek 4283 0 826, true, .low, 4283, 4284),
        (hunt false .centre 4283 (-15) 825, true, .high, 4283, 4267)],
      let x := c.1
      let sign : Int := if c.2.2.1 = .high then -1 else 1
      Ready (hunting x) ∧ (hunting x).tuner.search = some x ∧ 825 ≤ x.steps ∧ x.firstStored = none ∧
      ((x.phase = .leave ∧ c.2.1 = true ∨ x.phase = .seek ∧ c.2.1 = false) ∧ c.2.2.2 = (twentyOn x.down x.divider, twentyOn x.down x.divider) ∨
        x.phase = .leave ∧ c.2.1 = false ∧ c.2.2.2 = (x.divider, x.divider) ∨
        x.phase = .seek ∧ c.2.1 = true ∧ c.2.2.2.1 = x.divider ∧ (c.2.2.2.2 : Int) = x.divider + sign ∨
        x.phase = .centre ∧ x.reading = some c.2.2.1 ∧ x.offset.natAbs < 16 ∧ c.2.2.2.1 = x.divider ∧
          (c.2.2.2.2 : Int) = x.divider + x.offset + sign)) ∧
    (∀ p ∈ [StationPhase.leave, .seek, .centre], Ready (hunting (hunt true p 4283 0 826)) ∧
      (hunt true p 4283 0 826).storing = true) :=
  ⟨fun c h => ⟨hunting_ready _, rfl, by revert c; decide, by revert c; decide, by revert c; decide⟩,
    fun _ _ => ⟨hunting_ready _, rfl⟩⟩

theorem witness_SearchStepsTaken_aborted :
    ∀ x ∈ [hunt false .seek 4283 0 7, { hunt true .centre 4283 3 900 with stored := 2 }],
      let s := { hunting x with presets := (viewing deck).presets }
      Ready s ∧ s.power.state = .on ∧ s.tuner.search = some x ∧ s.tuner.source = .search ∧
      tunerRefusal s (effectiveRank s .p .user) false = none ∧ (5 : Arg).toNat ≤ 60 ∧
      (s.presets.getD ((5 : Arg).toNat - 1) .factory).stored = true := by
  intro x h
  refine ⟨ready_of rfl rfl rfl rfl, rfl, rfl, rfl, ?_⟩
  revert x
  decide +kernel

theorem witness_StationSearchEnds :
    (∀ v ∈ [1, 2], ∀ x ∈ [hunt true .leave 18170 0 3, hunt true .seek 18159 0 3, hunt true .centre 5010 3 4,
        hunt true .centre 18178 0 4, hunt true .centre 9000 16 9, hunt false .centre 1658 0 3,
        { hunt false .seek 1658 0 3 with reading := none }],
      (stocked v x).tuner.search = some x ∧ (stocked v x).tuner.source = .search ∧ x.steps < 825 ∧ x.down = false ∧
      1658 ≤ x.divider ∧ x.divider ≤ 18178) ∧
    ((stocked 1 (hunt true .centre 9000 16 9)).presets.findIdx? fun p => !p.stored && p.name.isEmpty) = some (60 - 1) ∧
    ((stocked 1 (hunt true .centre 9000 16 9)).presets.drop 60).any (fun p => !p.stored && p.name.isEmpty) = false ∧
    ((stocked 2 (hunt true .centre 9000 16 9)).presets.drop 59).any (fun p => !p.stored && p.name.isEmpty) = true ∧
    Ready (stocked 1 (hunt true .centre 9000 16 9)) :=
  ⟨by decide +kernel, by decide +kernel, by decide +kernel, by decide +kernel, ready_of rfl rfl rfl rfl⟩


/-! ### Windows that have passed -/

/-- Slot 3's evening window on the engine's list. -/
def listed (s : State) : State := { s with engine := { s.engine with due := dueListOf s } }

/-- Slot 3 at a time of 2004-03-09, its window on the list. -/
def expecting (at_ : Time) (s : State) : State := listed (slotted 3 daily (clocked ⟨2004, 3, 9⟩ at_ s))

/-- The state to which a clock step to a time leads. -/
def steppedOn (at_ : Time) (s : State) : State :=
  { s with clock := { s.clock with now := ⟨⟨2004, 3, 9⟩, at_⟩, subSecond := 0 } }

/-- What judges a window on the list: slots in use, the schedule calm after it, and whether one was judged. -/
abbrev passes (why : MissedReason) (judged : Bool) (u : State) : Prop :=
  u.passedInUse u.now ∧ (judgedPassed why u).calm ∧ decide (missedSlots why u.now u ≠ u.slots) = judged

theorem witness_ClockSetByHand_step :
    let s := expecting ⟨19, 0, 0⟩ (viewing deck)
    s.quiet ∧ s.store = Store.reset ∧ s.engine.due ≠ [] ∧ s.now < (steppedOn ⟨20, 15, 0⟩ s).now ∧
    passes .clockStep true (steppedOn ⟨20, 15, 0⟩ s) ∧ passes .clockStep false (steppedOn ⟨19, 20, 0⟩ s) ∧
    (steppedOn ⟨18, 0, 0⟩ s).now < s.now ∧ s.noneStoppedBy (steppedOn ⟨18, 0, 0⟩ s).now := by
  unfold passes State.quiet State.noneStoppedBy State.passedInUse State.calm
  decide +kernel

theorem witness_MainsRestored_passed :
    ∀ c ∈ [(expecting ⟨19, 20, 0⟩ (held .parked), false),
        (steppedOn ⟨20, 15, 0⟩ (expecting ⟨19, 0, 0⟩ (held .parked)), true)],
      c.1.power.state = .hold ∧ c.1.power.coldPending = false ∧ c.1.engine.current = none ∧
      c.1.power.pendingOff = none ∧ c.1.passedInUse c.1.now ∧
      (judgedPassed .power c.1).calm ∧ decide (missedSlots .power c.1.now c.1 ≠ c.1.slots) = c.2 := by
  unfold State.passedInUse State.calm
  decide +kernel

/-- Slot 7 with a window from 19:35 to 19:50 on the list beside the occurrence of slot 3. -/
def overlapped (s : State) : State :=
  { s with
    slots := s.slots.set 7 { third daily with defn := { daily with start := 1175, stop := 1190 } }
    engine := { s.engine with due := [⟨7, 5181, 7461815, 7461830, .user⟩] } }

theorem witness_OverlapJudged :
    ∀ c ∈ [(but overlapped (inProgress daily recorded .record ⟨19, 49, 59⟩), true),
        (but overlapped (inProgress daily recorded .record ⟨19, 48, 59⟩), false)],
      let s := c.1.1
      let u := secondOn 12 s
      (s.power.state = .on ∧ engineAction s = none ∧ s.power.pendingOff = none ∧ s.store = Store.reset ∧
        s.engine.current = some c.1.2.1 ∧ s.slots[3]? = some c.1.2.2 ∧ s.position.search = none) ∧
      s.clock.source = .mains ∧ 600 ≤ s.clock.subSecond + cycleOf s ∧ u.clock.now.time.second = 0 ∧
      u.now < c.1.2.1.stop ∧ c.1.2.1.begun = true ∧ s.passedInUse u.now ∧
      decide (missedSlots .overlap u.now u ≠ u.slots) = c.2 := by
  unfold State.passedInUse
  decide +kernel

/-- An ending whose tape unthreads, a window overlapped, with a correction pending and a preset to apply again. -/
def closing (k : Option Int) (p : Preset) (at_ : Time) : State × Occurrence × Slot :=
  but (fun s => overlapped { intending .parked s with
      clock := { s.clock with correction := k }
      presets := s.presets.set 4 p
      tuner := { s.tuner with stale := true } })
    (inProgress daily { recorded with phase := .ending } .unthreading at_)

/-- The clock that an ending leaves. -/
def corrected (s : State) : Nat :=
  epochMinute (dateTimeOf ((epochSecond s.clock.now : Int) + s.clock.correction.getD 0).toNat)

theorem witness_EndingReleases :
    ∀ c ∈ [(closing none Preset.factory ⟨20, 15, 3⟩, true), (closing (some 20) Preset.factory ⟨20, 15, 3⟩, true),
        (closing (some 3600) { Preset.factory with stored := true, divider := 4300 } ⟨19, 40, 0⟩, true),
        (closing (some (-3600)) { Preset.factory with stored := true, divider := 4283, fine := 2 } ⟨20, 15, 3⟩, false)],
      let s := c.1.1
      let u := { s with clock := { s.clock with now := dateTimeOf (60 * corrected s), set := true }
                        engine := { s.engine with current := none } }
      serves s c.1.2.1 c.1.2.2 ∧ s.transport.holder = .timer ∧ s.tuner.holder = .timer ∧ s.tuner.search = none ∧
      s.transport.intent = some .parked ∧ s.passedInUse u.now ∧
      (c.2 = true → (judgedPassed .overlap u).calm ∧ missedSlots .overlap u.now u ≠ u.slots) ∧
      (c.2 = false → u.now < s.now ∧ s.noneStoppedBy u.now ∧ u.calm) := by
  unfold State.passedInUse State.calm State.noneStoppedBy
  decide +kernel

/-- The last bytes of a TIME packet of 09:00:26 UTC on the channel of preset 5. -/
def timely (f : State → State) : State :=
  f { hearing with receiver := { Receiver.reset with
      state := .collect, live := true, collecting := some ⟨some 10, [0x5A, 0x1C, 0x30, 13, 10, 26, 9, 0, 26]⟩ } }

theorem witness_TimePacketsTaken :
    let utc : DateTime := ⟨⟨2003, 10, 26⟩, ⟨9, 0, 26⟩⟩
    (∀ s ∈ [timely id, timely fun s => { s with presets := s.presets.set 4 { s.presets.getD 4 .factory with identity := none } }],
      s.power.state = .on ∧ s.quiet ∧ engineAction s = none ∧ s.store = Store.reset ∧ s.tuner.source = .preset 5 ∧
      s.receiver.collecting = some ⟨some 10, [0x5A, 0x1C, 0x30, 13, 10, 26, 9, 0, 26]⟩ ∧
      (s.presets.getD 4 .factory).stored = true ∧ (s.presets.getD 4 .factory).timeSource = true) ∧
    16 * (0x1C : SlicerByte).toNat + (0x30 : SlicerByte).toNat / 16 = 0x1C3 ∧ (4 : SlicerByte).toInt = 4 ∧
    dateTimeOf ((epochSecond utc : Int) + 900 * 4).toNat = hearing.clock.now ∧
    (600 * ((epochSecond utc : Int) - epochSecond ⟨⟨2003, 10, 26⟩, ⟨9, 0, 6⟩⟩) - 12060).natAbs ≤ 1200 := by
  unfold State.quiet
  decide +kernel

/-- A label pause before its start: nothing sent, no speed chosen. -/
def unsent : Occurrence := { serving .labelPaused with label := .matched, labelsSeen := true, silence := true }

theorem witness_OccurrenceDisturbed_unsent :
    (∀ c ∈ [but (intending .parked) (inProgress labelled { unsent with resumeDue := true } .unthreading ⟨19, 28, 0⟩)],
      c.1.serving c.2.1 c.2.2 ∧ (c.2.1.begun || c.2.1.startSent) = false ∧ c.2.1.speed = none ∧ c.2.1.startDue = false ∧
      c.1.transport.tab = .present ∧ c.1.pins.tapeEnd = false ∧ c.1.protection.faults = Faults.none) ∧
    (let c := but powerless (inProgress labelled unsent .stop ⟨19, 28, 0⟩)
     c.1.power.state = .hold ∧ c.1.engine.current = some c.2.1 ∧ c.1.slots[3]? = some c.2.2 ∧
     c.1.now < c.2.1.extension.getD c.2.1.stop ∧ (c.2.1.begun || c.2.1.startSent) = false) := by
  refine ⟨all_serving ?_, ?_⟩ <;> decide +kernel

theorem test_restore_in_label_pause_records :
    leaves (.mainsRestore { cassetteClosed := true, parkedClosed := true, tabPresent := true, tapeStart := false, tapeEnd := false })
      (but powerless (inProgress labelled unsent .stop ⟨19, 28, 0⟩)).1
      (fun t => t.transport.intent == some (.record (.engine .sp false)) &&
        t.engine.current.any fun o => o.phase == .recording && o.speed == some .sp && o.label == .fallback) = true := by
  decide +kernel

/-! ### The same statements with an occurrence in progress -/

/-- The timer lock is set, as over a timed recording. -/
def locked (s : State) : State := { s with engine := { s.engine with lock := true } }

/-- The transport requests at rank 1, RECORD with a count. -/
def requests : List Ask := [.play, .record (.link 1), .pause, .cue, .review, .fwind, .rwind, .eject]

/-- TransportRefusals, ClearFaultsRemoves, SearchesBegin, TunerRequestsAct, StationSearchBegins and PowerRequested: the refusals
under the TIMER holder, those of R9 on a user's tape while an occurrence waits, and those under the lock. -/
theorem witness_RefusedDuringOccurrence :
    (∀ c ∈ [inProgress daily recorded .record ⟨19, 40, 0⟩, inProgress daily (serving .watch) .stop ⟨19, 28, 0⟩],
      c.1.serving c.2.1 c.2.2 ∧ c.1.transport.holder = .timer ∧ c.1.engine.lock = false ∧
      effectiveRank c.1 .p .user = .user ∧ effectiveRank c.1 .g .automatic = .automatic ∧
      (∀ a ∈ requests, transportRefusal c.1 .user a = some 3) ∧ transportRefusal c.1 .automatic .stop = some 3 ∧
      transportRefusal c.1 .user .stop = none ∧ holderTurnsAway c.1.transport.holder .user .play = true ∧
      searchRefusal c.1 .user true (some true) = some 3 ∧ tunerRefusal c.1 .user false = some 3 ∧
      tunerRefusal c.1 .automatic true = some 3) ∧
    (∀ c ∈ [but played (inProgress daily waits .play ⟨19, 29, 0⟩)],
      c.1.serving c.2.1 c.2.2 ∧ transportRefusal c.1 .user (.record (.link 1)) = some 6 ∧
      transportRefusal c.1 .automatic .play = some 3 ∧ searchRefusal c.1 .user false none = some 2) ∧
    (∀ c ∈ [but locked (inProgress daily recorded .record ⟨19, 40, 0⟩)],
      c.1.serving c.2.1 c.2.2 ∧ transportRefusal c.1 .user .play = some 4 ∧ searchRefusal c.1 .user true none = some 4 ∧
      tunerRefusal c.1 .user false = some 4 ∧ c.1.engine.lock = true) := by
  refine ⟨all_serving ?_, all_serving ?_, all_serving ?_⟩ <;> decide +kernel

/-- TransportMovesTaken, IntentsAndEjectTaken, RecordStartsAndResumes and ClearFaultsRemoves: a user's tape moves on while an
occurrence waits for it. -/
theorem witness_LinkMovesWhileWaiting :
    (∀ c ∈ [(TState.play, Ask.fwind), (.parked, .play), (.threading, .stop), (.unthreading, .stop), (.stop, .eject),
        (.play, .eject), (.parked, .eject), (.stop, .record (.link 1)), (.recPause, .record (.link 1)), (.recPause, .pause),
        (.play, .play)],
      let d := but played (inProgress daily waits c.1 ⟨19, 29, 0⟩)
      serves d.1 d.2.1 d.2.2 ∧ d.2.1.startSent = false ∧ d.1.transport.holder ≠ .timer ∧ d.1.position.search = none ∧
      transportRefusal d.1 (effectiveRank d.1 .p .user) c.2 = none) ∧
    (∀ c ∈ [but (fun s => faulty ⟨true, false, false, false, false, false⟩ (played s)) (inProgress daily waits .fault ⟨19, 29, 0⟩)],
      c.1.serving c.2.1 c.2.2 ∧ c.1.engine.lock = false ∧ c.1.position.search = none ∧
      holderTurnsAway c.1.transport.holder (effectiveRank c.1 .p .user) .play = false) := by
  refine ⟨?_, all_serving ?_⟩ <;> decide +kernel

/-- A user's search over a tape that an occurrence waits for (SearchesBegin, SearchJudgedAfterPulse, CounterRequestsAct). -/
theorem witness_SearchesWhileWaiting :
    (∀ t ∈ [TState.parked, .stop, .play],
      let d := but (fun s => counted 100 [] (played s)) (inProgress daily waits t ⟨19, 29, 0⟩)
      serves d.1 d.2.1 d.2.2 ∧ d.1.transport.intent = none ∧
      (∀ target ∈ [(899999 : Int), -899999, 100], searchRefusal d.1 .user true
        (if target = 100 then none else some (decide (100 < target))) = none)) ∧
    (∀ x ∈ [(⟨false, 0, .target 1251, some .forward, .wind, true, .user, .p⟩ : Search),
        ⟨false, 0, .target 1001, some .forward, .wind, true, .user, .p⟩, ⟨true, 3, .counting 1, some .forward, .wind, true, .user, .p⟩],
      let s := searching x (counted 1000 [] (played (inProgress daily waits .fwind ⟨19, 29, 0⟩).1))
      engineAction s = none ∧ s.power.pendingOff = none ∧ s.store = Store.reset ∧ s.engine.current = some waits ∧
      s.position.search = some x) := by decide +kernel

/-- TunerRequestsAct and StationSearchBegins: accepted while an occurrence waits for the user's tape. -/
theorem witness_TunerWhileWaiting :
    ∀ c ∈ [but played (inProgress daily waits .play ⟨19, 29, 0⟩)],
      c.1.serving c.2.1 c.2.2 ∧ tunerRefusal c.1 .user false = none ∧ tunerRefusal c.1 .user true = none ∧
      (∀ m ∈ [Link.p, .g], c.1.tuner.holder ≠ .search .user m) ∧ c.1.tuner.search = none ∧
      c.1.tuner.source = .preset 5 ∧ (c.1.presets.getD 4 .factory).stored = true ∧ c.1.tuner.present = true ∧
      c.1.tuner.base = (c.1.presets.getD 4 .factory).divider := by
  refine all_serving ?_
  decide +kernel

/-- The requests that every holder leaves to their blocks, and a second's count, during a recording: RESET_COUNTER,
WRITE_SETTING, SET_TIME within the minute, POWER ON, TIMER_ON_OFF 1 and the lock (CounterRequestsAct, StoreAndSettingsWritten,
ClockSetByHand, PowerRequested, TimerModeAndLockSet, TimebaseCounts, BytesCollected, PacketsDelivered). -/
theorem witness_RequestsDuringRecording :
    (∀ c ∈ [inProgress daily recorded .record ⟨19, 40, 58⟩],
      c.1.serving c.2.1 c.2.2 ∧ liveIn c.1.power.state .p = true ∧ (3 : Selector) ≠ 15 ∧ c.1.position.search = none ∧
      c.1.engine.lock = false ∧ c.1.engine.mode = true ∧ epochMinute ⟨⟨2004, 3, 9⟩, ⟨19, 40, 5⟩⟩ = c.1.now ∧
      c.1.clock.source = .mains ∧ 600 ≤ c.1.clock.subSecond + cycleOf c.1 ∧ (nextSecond c.1.clock.now).time.second ≠ 0 ∧
      c.1.transport.state = .record ∧ c.1.receiver.live = true) ∧
    (∀ c ∈ [inProgress daily { recorded with recorded := 86340 * 600 - 1 } .record ⟨19, 40, 58⟩],
      c.1.serving c.2.1 c.2.2 ∧ 86340 * 600 < c.2.1.recorded + cycleOf c.1) := by
  refine ⟨all_serving ?_, all_serving ?_⟩ <;> decide +kernel

/-- TapeSupervised: the lock line and the speed under a recording; a drum fault and a stall on a user's tape while an occurrence
waits, before any start is sent; a drum fault latched already; a user's wind to the accumulator's bound. -/
theorem witness_TapeSupervised_current :
    (∀ c ∈ [inProgress daily recorded .record ⟨19, 40, 0⟩,
        but (faulty ⟨false, false, false, false, false, true⟩) (inProgress daily (serving .watch) .threading ⟨19, 28, 0⟩)],
      c.1.serving c.2.1 c.2.2 ∧ c.1.power.state ≠ .hold ∧
      (c.1.transport.state = .threading → c.1.protection.faults.drumFault = true)) ∧
    (∀ d ∈ [DrumPhase.spinUp, .lost], ∀ w ∈ [0, 9595, 9596],
      ∀ c ∈ [but (fun s => { played s with
          transport := { (played s).transport with drum := d }
          protection := { s.protection with windLoad := w }
          reels := { s.reels with burst := .bursting 8 false, stallTimer := some 1000 } })
          (inProgress daily waits .fwind ⟨19, 29, 0⟩)],
        c.1.serving c.2.1 c.2.2 ∧ c.1.protection.faults = Faults.none ∧ c.1.transport.state.running = true ∧
        c.1.engine.current = some waits ∧ waits.startSent = false) := by
  refine ⟨all_serving ?_, fun d h w k => all_serving ?_⟩
  · decide +kernel
  · revert d w; decide +kernel

/-- PulseCounts: a timed recording with its start's mark pending (R42), at both bounds of the counter and at 0, and under a
user's wind with memory stop away from zero. -/
theorem witness_PulseCounts_current :
    ∀ n ∈ [(899999 : Int), -899999, 0],
      ∀ c ∈ [but (fun s => { s with position := { s.position with counter := n, pendingMark := true, memoryStop := true } })
          (inProgress daily recorded .record ⟨19, 40, 0⟩),
        but (fun s => { played s with position := { s.position with counter := n, memoryStop := true } })
          (inProgress daily waits .fwind ⟨19, 29, 0⟩)],
        c.1.serving c.2.1 c.2.2 ∧ c.1.position.direction = c.1.transport.state.motion ∧
        c.1.position.direction ≠ .atRest ∧ -boundOf c.1.settings.standard ≤ n ∧ n ≤ boundOf c.1.settings.standard := by
  intro n h
  refine all_serving ?_
  revert n
  decide +kernel

/-- EventsStoredAndDeleted: another slot than the recorded one stored, created and deleted. -/
theorem witness_EventsStoredAndDeleted_other :
    let e : EventDef := { daily with start := 60, stop := 120 }
    ∀ c ∈ [but (fun s => slotted 5 e (editing (worked .fetched (some 5) 17 true { e with stop := 130 }) s))
        (inProgress daily recorded .record ⟨19, 40, 0⟩)],
      c.1.serving c.2.1 c.2.2 ∧ c.2.1.slot ≠ 5 ∧ (c.1.port .p).eventWork.version = (c.1.slots.getD 5 .factory).version ∧
      definitionRefusal c.1 (asStored { e with stop := 130 }) none = none ∧ 5 < c.1.slots.length ∧
      (c.1.slots.findIdx? fun x => !x.inUse) = some 0 ∧ (c.1.slots.getD 5 .factory).inUse = true := by
  intro e
  refine all_serving ?_
  decide +kernel

/-- SearchStepsTaken: a user's station search goes on while an occurrence waits for it. -/
theorem witness_SearchStepsWhileWaiting :
    ∀ p ∈ [StationPhase.leave, .seek, .centre],
      let s := { hunting (hunt false p 4283 0 12) with engine := { Engine.reset with current := some waits } }
      engineAction s = none ∧ s.power.pendingOff = none ∧ s.store = Store.reset ∧
      s.tuner.search = some (hunt false p 4283 0 12) := by decide +kernel

end Sys2Proof.Tests
end

