-- ==== Sys2Proof/Proofs/IndexList.lean ====
section
/-!
PROOF. The index list as a list of positions (R44): what an insertion and an offer leave of its order, its spacing and its
length.
-/

namespace Sys2Proof.Machine

/-! ## An insertion in order -/

theorem insertInOrder_eq_orderedInsert (x : Int) (list : List Int) :
    insertInOrder x list = list.orderedInsert (· < ·) x := by
  induction list with
  | nil => rfl
  | cons y ys ih => simp [insertInOrder, List.orderedInsert, ih]

theorem insertInOrder_perm (x : Int) (list : List Int) : (insertInOrder x list).Perm (x :: list) := by
  rw [insertInOrder_eq_orderedInsert]
  exact List.perm_orderedInsert _ x list

@[simp] theorem mem_insertInOrder {x e : Int} {list : List Int} : e ∈ insertInOrder x list ↔ e = x ∨ e ∈ list := by
  rw [(insertInOrder_perm x list).mem_iff, List.mem_cons]

@[simp] theorem length_insertInOrder (x : Int) (list : List Int) : (insertInOrder x list).length = list.length + 1 := by
  simpa using (insertInOrder_perm x list).length_eq

/-- A list of positions more than `gap` apart stays so when one joins that is more than `gap` from each. -/
theorem insertInOrder_spaced {gap : Nat} {x : Int} {list : List Int} (spaced : list.Pairwise fun a b => a + (gap : Int) < b)
    (apart : ∀ e ∈ list, gap < distance e x) : (insertInOrder x list).Pairwise fun a b => a + (gap : Int) < b := by
  induction list with
  | nil => simp [insertInOrder]
  | cons y ys ih =>
    obtain ⟨head, tail⟩ := List.pairwise_cons.1 spaced
    obtain ⟨hy, hys⟩ := List.forall_mem_cons.1 apart
    simp only [distance] at hy
    simp only [insertInOrder]
    split
    · next lt =>
      refine List.pairwise_cons.2 ⟨fun e he => ?_, spaced⟩
      rcases List.mem_cons.1 he with rfl | he
      · omega
      · have := head e he
        omega
    · refine List.pairwise_cons.2 ⟨fun e he => ?_, ih tail hys⟩
      rcases mem_insertInOrder.1 he with rfl | he
      · omega
      · exact head e he

theorem insertInOrder_increasing {x : Int} {list : List Int} (increasing : list.Pairwise (· < ·)) (new : x ∉ list) :
    (insertInOrder x list).Pairwise (· < ·) := by
  have apart : ∀ e ∈ list, 0 < distance e x := by
    intro e he
    have : e ≠ x := fun h => new (h ▸ he)
    simp only [distance]
    omega
  simpa using insertInOrder_spaced (gap := 0) (by simpa using increasing) apart

/-! ## The farthest entry -/

/-- An entry that no other exceeds in distance from the counter, the lowest of those equally far. -/
def IsFarthest (counter gone : Int) (list : List Int) : Prop :=
  gone ∈ list ∧ ∀ e ∈ list, distance counter e < distance counter gone ∨
    distance counter e = distance counter gone ∧ gone ≤ e

theorem farthest_isFarthest {counter : Int} {list : List Int} (increasing : list.Pairwise (· < ·)) (some_ : list ≠ []) :
    ∃ gone, farthest counter list = some gone ∧ IsFarthest counter gone list := by
  induction list with
  | nil => exact absurd rfl some_
  | cons y ys ih =>
    obtain ⟨head, tail⟩ := List.pairwise_cons.1 increasing
    by_cases last : ys = []
    · exact ⟨y, by simp [farthest, last], by simp [IsFarthest, last]⟩
    · obtain ⟨z, hz, mem, far⟩ := ih tail last
      simp only [farthest, hz]
      split
      · next le =>
        refine ⟨y, rfl, List.mem_cons_self, List.forall_mem_cons.2 ⟨.inr ⟨rfl, le_rfl⟩, fun e he => ?_⟩⟩
        have := head e he
        rcases far e he with lt | ⟨eq, _⟩ <;> omega
      · next gt =>
        exact ⟨z, rfl, List.mem_cons_of_mem y mem, List.forall_mem_cons.2 ⟨.inl (by omega), far⟩⟩

/-! ## A position offered -/

theorem admitMark_near {spacing : Nat} {counter position : Int} {list : List Int}
    (near : ∃ e ∈ list, distance e position ≤ spacing) : admitMark spacing counter position list = list := by
  simp [admitMark, near]

theorem admitMark_room {spacing : Nat} {counter position : Int} {list : List Int}
    (apart : ∀ e ∈ list, spacing < distance e position) (room : list.length < 32) :
    admitMark spacing counter position list = insertInOrder position list := by
  simpa [admitMark, room] using fun e he near => absurd (apart e he) (by omega)

theorem admitMark_full {spacing : Nat} {counter position : Int} {list : List Int} (increasing : list.Pairwise (· < ·))
    (apart : ∀ e ∈ list, spacing < distance e position) (full : 32 ≤ list.length) :
    ∃ gone, IsFarthest counter gone list ∧
      admitMark spacing counter position list = insertInOrder position (list.erase gone) := by
  obtain ⟨gone, found, far⟩ := farthest_isFarthest (counter := counter) increasing (by rintro rfl; simp at full)
  refine ⟨gone, far, ?_⟩
  have none_near : list.any (fun e => decide (distance e position ≤ spacing)) = false := by
    simpa using apart
  simp [admitMark, none_near, Nat.not_lt.2 full, found]

/-- What an offer leaves: the list as it was, or the position in a sublist of it that has room for one more. -/
theorem admitMark_cases (spacing : Nat) (counter position : Int) {list : List Int} (increasing : list.Pairwise (· < ·)) :
    admitMark spacing counter position list = list ∨
    ∃ kept, kept.Sublist list ∧ (list.length ≤ 32 → kept.length < 32) ∧
      (∀ e ∈ kept, spacing < distance e position) ∧
      admitMark spacing counter position list = insertInOrder position kept := by
  by_cases near : ∃ e ∈ list, distance e position ≤ spacing
  · exact .inl (admitMark_near near)
  have apart : ∀ e ∈ list, spacing < distance e position := by simpa using near
  by_cases room : list.length < 32
  · exact .inr ⟨list, List.Sublist.refl _, fun _ => room, apart, admitMark_room apart room⟩
  · obtain ⟨gone, far, eq⟩ := admitMark_full (counter := counter) increasing apart (by omega)
    refine .inr ⟨list.erase gone, List.erase_sublist, fun _ => ?_, fun e he => apart e (List.mem_of_mem_erase he), eq⟩
    rw [List.length_erase_of_mem far.1]
    omega

/-- Settles O26: an entry within the spacing turns the position away; else it is inserted, the farthest entry leaving a full
list. -/
theorem indexListAdmits : Obligations.IndexListAdmits := by
  intro spacing counter position list increasing
  have absent : (∀ e ∈ list, spacing < distance e position) → position ∉ list :=
    fun apart mem => absurd (apart position mem) (by simp [distance])
  refine ⟨admitMark_near, fun apart room => ?_, fun apart full => ?_⟩
  · rw [admitMark_room apart room]
    exact ⟨insertInOrder_increasing increasing (absent apart), insertInOrder_perm position list⟩
  · obtain ⟨gone, ⟨mem, far⟩, eq⟩ := admitMark_full (counter := counter) increasing apart full
    rw [eq]
    exact ⟨gone, mem, far,
      insertInOrder_increasing (increasing.sublist List.erase_sublist) fun h => absent apart (List.mem_of_mem_erase h),
      insertInOrder_perm position _⟩

end Sys2Proof.Machine
end

