-- ==== Sys2Proof/Proofs/TapeFrames.lean ====
section
/-!
PROOF. The operations that leave the index list and the counter as they were: one equation for each, beside the frames of
Laws/TapeFrames and Laws/EngineFrames, which leave the position record of these open.
-/

namespace Sys2Proof.Machine

/-- What the index list's law reads of the position record: the list and the counter. -/
def Position.tape (p : Position) : List Int × Int := (p.index, p.counter)

@[simp] theorem Position.entered_tape (old new : TState) (p : Position) : (p.entered old new).tape = p.tape := by
  simp only [Position.entered]; split <;> rfl

@[simp] theorem Position.ended_tape (r : Search) (o : SearchOutcome) (p : Position) : (p.ended r o).tape = p.tape := rfl

@[simp] theorem recordingStart_tape (s : State) : (recordingStart s).position.tape = s.position.tape := rfl

@[simp] theorem endSearch_tape (o : SearchOutcome) (s : State) : (endSearch o s).position.tape = s.position.tape := by
  simp only [endSearch]
  (repeat' split) <;> simp

@[simp] theorem enter_tape (new : TState) (s : State) : (enter new s).position.tape = s.position.tape := by
  simp only [enter]
  (repeat' split) <;> simp

@[simp] theorem thread_tape (i : Intent) (s : State) : (thread i s).position.tape = s.position.tape := by
  simp only [thread]; simp

@[simp] theorem startRecord_tape (src : RecordSource) (s : State) :
    (startRecord src s).position.tape = s.position.tape := by
  simp only [startRecord]
  (repeat' split) <;> simp

@[simp] theorem resumeRecord_tape (src : RecordSource) (s : State) :
    (resumeRecord src s).position.tape = s.position.tape := by
  simp only [resumeRecord]
  (repeat' split) <;> simp

@[simp] theorem stopAndUnthread_tape (i : Intent) (s : State) :
    (stopAndUnthread i s).position.tape = s.position.tape := by
  simp only [stopAndUnthread]
  (repeat' split) <;> simp

@[simp] theorem act_tape (a : Ask) (m : Move) (s : State) : (act a m s).position.tape = s.position.tape := by
  simp only [act]
  (repeat' split) <;> simp

@[simp] theorem acceptFrom_tape (l : Link) (r : Rank) (takesHolder : Bool) (s : State) :
    (acceptFrom l r takesHolder s).position.tape = s.position.tape := by
  simp only [acceptFrom]
  (repeat' split) <;> simp

@[simp] theorem requestTransport_tape (l : Link) (r : Rank) (a : Ask) (s : State) :
    (requestTransport l r a s).2.position.tape = s.position.tape := by
  simp only [requestTransport]
  (repeat' split) <;> simp

@[simp] theorem carryOutThreaded_tape (s : State) : (carryOutThreaded s).position.tape = s.position.tape := by
  simp only [carryOutThreaded]
  (repeat' split) <;> simp

@[simp] theorem carryOutParked_tape (s : State) : (carryOutParked s).position.tape = s.position.tape := by
  simp only [carryOutParked]
  (repeat' split) <;> simp

@[simp] theorem latchJam_tape (k : FaultKind) (s : State) : (latchJam k s).position.tape = s.position.tape := by
  simp only [latchJam]; simp

@[simp] theorem latchProtective_tape (k : FaultKind) (s : State) :
    (latchProtective k s).position.tape = s.position.tape := by
  simp only [latchProtective]
  (repeat' split) <;> simp

@[simp] theorem transportTake_tape (s : State) : (transportTake s).position.tape = s.position.tape := by
  simp only [transportTake]
  (repeat' split) <;> simp

theorem transportRecord_tape (v : Speed) (mark : Bool) {s u : State} (h : transportRecord v mark s = some u) : u.position.tape = s.position.tape := by
  simp only [transportRecord] at h
  repeat' split at h
  all_goals first | (cases h; done) | (cases h; simp)

@[simp] theorem transportPause_tape (s : State) : (transportPause s).position.tape = s.position.tape := by
  simp only [transportPause]
  (repeat' split) <;> simp

@[simp] theorem transportStop_tape (s : State) : (transportStop s).position.tape = s.position.tape := by
  simp only [transportStop]
  (repeat' split) <;> simp

@[simp] theorem transportPark_tape (s : State) : (transportPark s).position.tape = s.position.tape := by
  simp only [transportPark]
  (repeat' split) <;> simp

@[simp] theorem transportOff_tape (s : State) : (transportOff s).position.tape = s.position.tape := by
  simp only [transportOff]
  (repeat' split) <;> simp

@[simp] theorem askStop_tape (s : State) : (askStop s).position.tape = s.position.tape := by
  simp only [askStop]
  (repeat' split) <;> simp

@[simp] theorem searchMove_tape (t : TState) (s : State) : (searchMove t s).position.tape = s.position.tape := by
  simp only [searchMove]
  (repeat' split) <;> simp

@[simp] theorem endAction_tape (play : Bool) (s : State) : (endAction play s).position.tape = s.position.tape := by
  simp only [endAction]
  (repeat' split) <;> simp

@[simp] theorem searchFound_tape (r : Search) (s : State) : (searchFound r s).position.tape = s.position.tape := by
  simp only [searchFound]; simp

@[simp] theorem setSearch_tape (r : Option Search) (s : State) : (setSearch r s).position.tape = s.position.tape := rfl

@[simp] theorem beginSearch_tape (r : Search) (s : State) : (beginSearch r s).position.tape = s.position.tape := by
  simp only [beginSearch]
  (repeat' split) <;> simp

@[simp] theorem searchThreaded_tape (s : State) : (searchThreaded s).position.tape = s.position.tape := by
  simp only [searchThreaded]
  (repeat' split) <;> simp

@[simp] theorem requestSearch_tape (l : Link) (rank : Rank) (r : Option Search) (s : State) :
    (requestSearch l rank r s).2.position.tape = s.position.tape := by
  simp only [requestSearch]
  (repeat' split) <;> simp

@[simp] theorem judgeSearchTarget_tape (s : State) : (judgeSearchTarget s).position.tape = s.position.tape := by
  simp only [judgeSearchTarget]
  (repeat' split) <;> simp

@[simp] theorem countMark_tape (s : State) : (countMark s).position.tape = s.position.tape := by
  simp only [countMark]
  (repeat' split) <;> simp

@[simp] theorem memoryStops_tape (s : State) : (memoryStops s).position.tape = s.position.tape := by
  simp only [memoryStops, askStop_tape, raise_keeps]; rfl

@[simp] theorem endOccurrence_tape (v : Verdict) (s : State) : (endOccurrence v s).position.tape = s.position.tape := by
  simp only [endOccurrence]
  (repeat' split) <;> simp

@[simp] theorem sendRecord_tape (v : Speed) (mark : Bool) (f : Occurrence → Occurrence) (s : State) :
    (sendRecord v mark f s).position.tape = s.position.tape := by
  simp only [sendRecord]
  split
  · next sent => simp [transportRecord_tape _ _ sent]
  · simp

@[simp] theorem sendStart_tape (handover : Bool) (o : Occurrence) (v : Speed) (s : State) :
    (sendStart handover o v s).position.tape = s.position.tape := by
  simp only [sendStart]
  (repeat' split) <;> simp

@[simp] theorem judgeStart_tape (handover : Bool) (o : Occurrence) (s : State) :
    (judgeStart handover o s).position.tape = s.position.tape := by
  simp only [judgeStart]
  (repeat' split) <;> simp

@[simp] theorem recordAgain_tape (s : State) : (recordAgain s).position.tape = s.position.tape := by
  simp only [recordAgain]
  split
  · simp
  · cases sent : transportRecord _ false _ with
    | none => simp
    | some u => simp [transportRecord_tape _ _ sent]

@[simp] theorem tryTakes_tape (o : Occurrence) (s : State) : (tryTakes o s).position.tape = s.position.tape := by
  simp only [tryTakes]
  (repeat' split) <;> simp

@[simp] theorem comeDue_tape (s : State) : (comeDue s).position.tape = s.position.tape := by
  simp only [comeDue]
  (repeat' split) <;> simp

@[simp] theorem handOver_tape (o : Occurrence) (e : DueEntry) (s : State) :
    (handOver o e s).position.tape = s.position.tape := by
  simp only [handOver]; simp

@[simp] theorem scheduledStop_tape (o : Occurrence) (s : State) :
    (scheduledStop o s).position.tape = s.position.tape := by
  simp only [scheduledStop]
  (repeat' split) <;> simp

@[simp] theorem clockReached_tape (step : Bool) (s : State) : (clockReached step s).position.tape = s.position.tape := by
  simp only [clockReached]
  (repeat' split) <;> simp

@[simp] theorem newStop_tape (stop : Nat) (s : State) : (newStop stop s).position.tape = s.position.tape := by
  simp only [newStop]
  (repeat' split) <;> simp

@[simp] theorem minuteBoundary_tape (s : State) : (minuteBoundary s).position.tape = s.position.tape := by
  simp only [minuteBoundary]
  (repeat' split) <;> simp

@[simp] theorem clockStep_tape (old new : Nat) (s : State) : (clockStep old new s).position.tape = s.position.tape := by
  simp only [clockStep]
  (repeat' split) <;> simp

@[simp] theorem applyTime_tape (x : DateTime) (sub : Nat) (s : State) :
    (applyTime x sub s).position.tape = s.position.tape := by
  simp only [applyTime]
  (repeat' split) <;> simp

@[simp] theorem applyCorrection_tape (s : State) : (applyCorrection s).position.tape = s.position.tape := by
  simp only [applyCorrection]
  (repeat' split) <;> simp

@[simp] theorem finishEnding_tape (o : Occurrence) (s : State) : (finishEnding o s).position.tape = s.position.tape := by
  simp only [finishEnding]
  (repeat' split) <;> simp

theorem occurrenceAction_tape (o : Occurrence) {s u : State} (h : occurrenceAction o s = some u) : u.position.tape = s.position.tape := by
  simp only [occurrenceAction] at h
  repeat' split at h
  all_goals first | (cases h; done) | (cases h; simp)

theorem engineAction_tape {s u : State} (h : engineAction s = some u) : u.position.tape = s.position.tape := by
  simp only [engineAction] at h
  split at h
  · cases h
  · split at h
    · exact occurrenceAction_tape _ h
    · split at h <;> cases h
      simp

@[simp] theorem runEngine_tape (fuel : Nat) (s : State) : (runEngine fuel s).position.tape = s.position.tape := by
  induction fuel generalizing s with
  | zero => simp [runEngine]
  | succ n ih =>
    simp only [runEngine]
    split
    · next acts => rw [ih, engineAction_tape acts]
    · rfl

@[simp] theorem userStop_tape (s : State) : (userStop s).position.tape = s.position.tape := by
  simp only [userStop]; simp

@[simp] theorem endNoting_tape (n : Noted) (v : Verdict) (s : State) :
    (endNoting n v s).position.tape = s.position.tape := by
  simp only [endNoting]; simp

@[simp] theorem faultUnderTimer_tape (s : State) : (faultUnderTimer s).position.tape = s.position.tape := by
  simp only [faultUnderTimer]
  (repeat' split) <;> simp

@[simp] theorem edgeUnderTimer_tape (s : State) : (edgeUnderTimer s).position.tape = s.position.tape := by
  simp only [edgeUnderTimer]; simp

@[simp] theorem recPauseLimitUnderTimer_tape (s : State) :
    (recPauseLimitUnderTimer s).position.tape = s.position.tape := by
  simp only [recPauseLimitUnderTimer]
  (repeat' split) <;> simp

@[simp] theorem restoreOccurrence_tape (o : Occurrence) (s : State) :
    (restoreOccurrence o s).position.tape = s.position.tape := by
  simp only [restoreOccurrence]
  (repeat' split) <;> simp

@[simp] theorem engineRestore_tape (s : State) : (engineRestore s).position.tape = s.position.tape := by
  simp only [engineRestore]
  (repeat' split) <;> simp

@[simp] theorem settle_tape (s : State) : (settle s).position.tape = s.position.tape := by
  simp only [settle]; simp

@[simp] theorem increment_tape (k : Nat) (s : State) : (increment k s).position.tape = s.position.tape := by
  simp only [increment]
  (repeat' split) <;> simp

@[simp] theorem mainsCycle_tape (s : State) : (mainsCycle s).position.tape = s.position.tape := by
  simp only [mainsCycle]
  (repeat' split) <;> simp

@[simp] theorem crystalTick_tape (s : State) : (crystalTick s).position.tape = s.position.tape := by
  simp only [crystalTick]
  (repeat' split) <;> simp

@[simp] theorem setTime_tape (l : Link) (arg : Arg) (s : State) :
    (setTime l arg s).2.position.tape = s.position.tape := by
  simp only [setTime]
  (repeat' split) <;> simp

@[simp] theorem acceptTime_tape (local_ : Nat) (s : State) : (acceptTime local_ s).position.tape = s.position.tape := by
  simp only [acceptTime]
  (repeat' split) <;> simp

@[simp] theorem broadcastTime_tape (identity : Nat) (utc : DateTime) (offset : Int) (s : State) :
    (broadcastTime identity utc offset s).position.tape = s.position.tape := by
  simp only [broadcastTime]
  (repeat' split) <;> simp

@[simp] theorem labelEffect_tape (o : Occurrence) (matching : Bool) (status : ProgStatus) (s : State) :
    (labelEffect o matching status s).position.tape = s.position.tape := by
  simp only [labelEffect]
  (repeat' split) <;> simp

@[simp] theorem examineLabel_tape (identity day month hour minute : Nat) (status : ProgStatus) (s : State) :
    (examineLabel identity day month hour minute status s).position.tape = s.position.tape := by
  simp only [examineLabel]
  (repeat' split) <;> simp

@[simp] theorem silenceExpired_tape (s : State) : (silenceExpired s).position.tape = s.position.tape := by
  simp only [silenceExpired]
  (repeat' split) <;> simp

@[simp] theorem deliver_tape (p : Packet) (s : State) : (deliver p s).position.tape = s.position.tape := by
  simp only [deliver]
  (repeat' split) <;> simp

@[simp] theorem collectByte_tape (b : SlicerByte) (c : Collecting) (s : State) :
    (collectByte b c s).position.tape = s.position.tape := by
  simp only [collectByte]
  (repeat' split) <;> simp

@[simp] theorem slicerByte_tape (b : SlicerByte) (good : Bool) (s : State) :
    (slicerByte b good s).position.tape = s.position.tape := by
  simp only [slicerByte]
  (repeat' split) <;> simp

@[simp] theorem timerOnOff_tape (r : Rank) (arg : Nat) (s : State) :
    (timerOnOff r arg s).2.position.tape = s.position.tape := by
  simp only [timerOnOff]
  (repeat' split) <;> simp

@[simp] theorem lockTimer_tape (r : Rank) (s : State) : (lockTimer r s).2.position.tape = s.position.tape := by
  simp only [lockTimer]
  (repeat' split) <;> simp

@[simp] theorem timerLockUnlock_tape (r : Rank) (arg : Nat) (s : State) :
    (timerLockUnlock r arg s).2.position.tape = s.position.tape := by
  simp only [timerLockUnlock]
  (repeat' split) <;> simp

@[simp] theorem switchOff_tape (l : Link) (s : State) : (switchOff l s).position.tape = s.position.tape := by
  simp only [switchOff]; simp

@[simp] theorem powerOff_tape (l : Link) (r : Rank) (s : State) :
    (powerOff l r s).2.position.tape = s.position.tape := by
  simp only [powerOff]
  (repeat' split) <;> simp

@[simp] theorem powerRequest_tape (l : Link) (r : Rank) (arg : Nat) (s : State) :
    (powerRequest l r arg s).2.position.tape = s.position.tape := by
  simp only [powerRequest]
  (repeat' split) <;> simp

@[simp] theorem haltMechanism_tape (s : State) : (haltMechanism s).position.tape = s.position.tape := by
  simp only [haltMechanism]
  (repeat' split) <;> simp

@[simp] theorem mainsLoss_tape (s : State) : (mainsLoss s).position.tape = s.position.tape := by
  simp only [mainsLoss]
  (repeat' split) <;> simp

@[simp] theorem clearFaults_tape (l : Link) (r : Rank) (s : State) :
    (clearFaults l r s).2.position.tape = s.position.tape := by
  simp only [clearFaults]
  (repeat' split) <;> simp

@[simp] theorem setMemoryStop_tape (arg : Arg) (s : State) :
    (setMemoryStop arg s).2.position.tape = s.position.tape := by
  simp only [setMemoryStop]
  (repeat' split) <;> simp [Position.tape]

@[simp] theorem storeInto_tape (l : Link) (r : Rank) (n : Nat) (e : EventDef) (s : State) :
    (storeInto l r n e s).2.position.tape = s.position.tape := by
  simp only [storeInto]
  (repeat' split) <;> simp

@[simp] theorem storeEvent_tape (l : Link) (r : Rank) (s : State) :
    (storeEvent l r s).2.position.tape = s.position.tape := by
  simp only [storeEvent]
  (repeat' split) <;> simp

@[simp] theorem freeSlot_tape (n : Nat) (s : State) : (freeSlot n s).position.tape = s.position.tape := by
  simp only [freeSlot]
  (repeat' split) <;> simp

@[simp] theorem deleteEvent_tape (r : Rank) (arg : Arg) (s : State) :
    (deleteEvent r arg s).2.position.tape = s.position.tape := by
  simp only [deleteEvent]
  (repeat' split) <;> simp

@[simp] theorem beginInsertion_tape (s : State) : (beginInsertion s).position.tape = s.position.tape := by
  simp only [beginInsertion]
  (repeat' split) <;> simp

@[simp] theorem cassetteCloses_tape (s : State) : (cassetteCloses s).position.tape = s.position.tape := by
  simp only [cassetteCloses]
  (repeat' split) <;> simp

@[simp] theorem abandonInsertion_tape (s : State) : (abandonInsertion s).position.tape = s.position.tape := by
  simp only [abandonInsertion]; simp

@[simp] theorem autoPlay_tape (s : State) : (autoPlay s).position.tape = s.position.tape := by
  simp only [autoPlay]
  (repeat' split) <;> simp

theorem thenParked_tape (carryOut : State → State) (s : State)
    (kept : ∀ u, (carryOut u).position.tape = u.position.tape) :
    (thenParked carryOut s).position.tape = s.position.tape := by
  simp only [thenParked]
  split <;> simp [kept]

@[simp] theorem completeInsertion_tape (tabPresent : Bool) (s : State) :
    (completeInsertion tabPresent s).position.tape = s.position.tape := by
  simp only [completeInsertion]
  split <;> simp [thenParked_tape carryOutParked _ (by simp), thenParked_tape autoPlay _ (by simp)]

@[simp] theorem completeUnthreading_tape (s : State) : (completeUnthreading s).position.tape = s.position.tape := by
  simp only [completeUnthreading]
  simp [thenParked_tape carryOutParked _ (by simp)]

@[simp] theorem parkedCloses_tape (tabPresent : Bool) (s : State) :
    (parkedCloses tabPresent s).position.tape = s.position.tape := by
  simp only [parkedCloses]
  (repeat' split) <;> simp

@[simp] theorem threadedCloses_tape (s : State) : (threadedCloses s).position.tape = s.position.tape := by
  simp only [threadedCloses]
  (repeat' split) <;> simp

@[simp] theorem jam_tape (k : FaultKind) (s : State) : (jam k s).position.tape = s.position.tape := by
  simp only [jam]; simp

@[simp] theorem insertTimedOut_tape (s : State) : (insertTimedOut s).position.tape = s.position.tape := by
  simp only [insertTimedOut]
  (repeat' split) <;> simp

@[simp] theorem threadTimedOut_tape (s : State) : (threadTimedOut s).position.tape = s.position.tape := by
  simp only [threadTimedOut]
  (repeat' split) <;> simp

@[simp] theorem unthreadTimedOut_tape (s : State) : (unthreadTimedOut s).position.tape = s.position.tape := by
  simp only [unthreadTimedOut]
  (repeat' split) <;> simp

@[simp] theorem ejectTimedOut_tape (s : State) : (ejectTimedOut s).position.tape = s.position.tape := by
  simp only [ejectTimedOut]
  (repeat' split) <;> simp

@[simp] theorem stillLimitExpires_tape (s : State) : (stillLimitExpires s).position.tape = s.position.tape := by
  simp only [stillLimitExpires]
  (repeat' split) <;> simp

@[simp] theorem recPauseLimitExpires_tape (s : State) : (recPauseLimitExpires s).position.tape = s.position.tape := by
  simp only [recPauseLimitExpires]
  (repeat' split) <;> simp

@[simp] theorem stopLimitExpires_tape (s : State) : (stopLimitExpires s).position.tape = s.position.tape := by
  simp only [stopLimitExpires]
  (repeat' split) <;> simp

@[simp] theorem oneTouchEnds_tape (s : State) : (oneTouchEnds s).position.tape = s.position.tape := by
  simp only [oneTouchEnds]
  (repeat' split) <;> simp

@[simp] theorem protect_tape (k : FaultKind) (s : State) : (protect k s).position.tape = s.position.tape := by
  simp only [protect]
  split <;> simp

@[simp] theorem drumSpinUpExpires_tape (s : State) : (drumSpinUpExpires s).position.tape = s.position.tape := by
  simp only [drumSpinUpExpires]
  (repeat' split) <;> simp

@[simp] theorem drumLostExpires_tape (s : State) : (drumLostExpires s).position.tape = s.position.tape := by
  simp only [drumLostExpires]
  (repeat' split) <;> simp

@[simp] theorem reachEdge_tape (s : State) : (reachEdge s).position.tape = s.position.tape := by
  simp only [reachEdge]; simp

@[simp] theorem autoRewind_tape (s : State) : (autoRewind s).position.tape = s.position.tape := by
  simp only [autoRewind]
  (repeat' split) <;> simp

@[simp] theorem endReached_tape (s : State) : (endReached s).position.tape = s.position.tape := by
  simp only [endReached]
  (repeat' split) <;> simp

@[simp] theorem tapeEndBecomes_tape (active : Bool) (s : State) :
    (tapeEndBecomes active s).position.tape = s.position.tape := by
  simp only [tapeEndBecomes]
  (repeat' split) <;> simp

@[simp] theorem tapeStartBecomes_tape (active : Bool) (s : State) :
    (tapeStartBecomes active s).position.tape = s.position.tape := by
  simp only [tapeStartBecomes]
  (repeat' split) <;> simp

@[simp] theorem windLoadTick_tape (s : State) : (windLoadTick s).position.tape = s.position.tape := by
  simp only [windLoadTick]
  (repeat' split) <;> simp

@[simp] theorem trackTimesOut_tape (s : State) : (trackTimesOut s).position.tape = s.position.tape := by
  simp only [trackTimesOut]
  (repeat' split) <;> simp [Position.tape]

@[simp] theorem stallExpires_tape (s : State) : (stallExpires s).position.tape = s.position.tape := by
  simp only [stallExpires]
  (repeat' split) <;> simp

@[simp] theorem burstEnds_tape (s : State) : (burstEnds s).position.tape = s.position.tape := by
  simp only [burstEnds]
  (repeat' split) <;> simp

@[simp] theorem stopRequest_tape (l : Link) (r : Rank) (s : State) :
    (stopRequest l r s).2.position.tape = s.position.tape := by
  have kept := requestTransport_tape l r .stop s
  simp only [stopRequest]
  split
  · next answered => rw [answered] at kept; split <;> simpa using kept
  · exact kept

end Sys2Proof.Machine
end

