-- ==== Sys2Proof/Proofs/IndexLaw.lean ====
section
/-!
PROOF. The law of the index list (R36, R44) under every step: it reads the list, the counter and *system standard* alone, so
every command keeps it that keeps these; the others are a pulse, RESET_COUNTER, a change of *system standard*, an ejection, a
recovery and the resets.
-/

namespace Sys2Proof.Machine

variable {s u : State}

/-! ## What the law reads -/

theorem framesOf_eq_frames (x : Standard) : framesOf x = x.frames := by cases x <;> rfl

@[simp] theorem counterBound_eq_boundOf (s : State) : s.counterBound = boundOf s.settings.standard := by
  simp only [State.counterBound, State.frameRate, boundOf, framesOf_eq_frames]

theorem boundOf_nonneg (x : Standard) : 0 ≤ boundOf x := by cases x <;> decide

theorem IndexLaw.congr (tape : u.position.tape = s.position.tape) (std : u.settings.standard = s.settings.standard)
    (h : IndexLaw s) : IndexLaw u := by
  obtain ⟨index, counter⟩ := Prod.mk.inj tape
  simpa only [IndexLaw, index, counter, std] using h

/-- A cleared tape is lawful under either standard. -/
theorem IndexLaw.cleared (tape : u.position.tape = ([], 0)) : IndexLaw u := by
  obtain ⟨index, counter⟩ := Prod.mk.inj tape
  have := boundOf_nonneg u.settings.standard
  simp [IndexLaw, index, counter, this]

/-! ## A counted pulse -/

theorem countedIn_inRange {bound counter : Int} (d : Direction) (lower : -bound ≤ counter) (upper : counter ≤ bound) :
    -bound ≤ countedIn bound d counter ∧ countedIn bound d counter ≤ bound := by
  cases d <;> simp only [countedIn, saturate] <;> (repeat' split) <;> omega

theorem IndexLaw.counted (h : IndexLaw s) : IndexLaw (s.modPosition fun p =>
    { p with counter := countedIn s.counterBound p.direction p.counter, trackPresent := true }) := by
  obtain ⟨short, spaced, range, lower, upper⟩ := h
  refine ⟨short, spaced, range, ?_⟩
  simpa using countedIn_inRange s.position.direction lower upper

theorem offerMark_indexLaw (h : IndexLaw s) : IndexLaw (offerMark s) := by
  obtain ⟨short, spaced, range, lower, upper⟩ := h
  have increasing : s.position.index.Pairwise (· < ·) := spaced.imp fun gap => by omega
  have counted : ∀ index : List Int, (offerMark s).position.index = index →
      index.length ≤ 32 → index.Pairwise (fun a b => a + (framesOf s.settings.standard : Int) < b) →
      (∀ e ∈ index, -boundOf s.settings.standard ≤ e ∧ e ≤ boundOf s.settings.standard) → IndexLaw (offerMark s) := by
    rintro _ rfl short spaced range
    exact ⟨short, spaced, range, lower, upper⟩
  rcases admitMark_cases s.settings.standard.frames s.position.counter s.position.counter increasing with
    kept | ⟨kept, sub, room, apart, inserted⟩
  · exact counted _ kept short spaced range
  · refine counted _ inserted ?_ ?_ ?_
    · have := room short
      rw [length_insertInOrder]
      omega
    · rw [framesOf_eq_frames] at spaced ⊢
      exact insertInOrder_spaced (spaced.sublist sub) apart
    · intro e he
      rcases mem_insertInOrder.1 he with rfl | he
      · exact ⟨lower, upper⟩
      · exact range e (sub.subset he)

theorem writeMark_indexLaw (h : IndexLaw s) : IndexLaw (writeMark s) := by
  simp only [writeMark]
  split
  · exact (offerMark_indexLaw (s := s.modOutputs _) (h.congr rfl rfl)).congr rfl rfl
  · exact h.congr rfl rfl

theorem detectMark_indexLaw (mark : Bool) (h : IndexLaw s) : IndexLaw (detectMark mark s) := by
  simp only [detectMark]
  split
  · exact (offerMark_indexLaw h).congr (by simp) (by simp)
  · exact h

theorem controlTrackPulse_indexLaw (mark : Bool) (h : IndexLaw s) : IndexLaw (controlTrackPulse mark s) := by
  simp only [controlTrackPulse]
  have judged := (detectMark_indexLaw mark (writeMark_indexLaw h.counted)).congr
    (judgeSearchTarget_tape _) (by simp)
  split
  · exact h
  · split
    · exact h.congr rfl rfl
    · split
      · exact judged.congr (by simp) (by simp)
      · exact judged

/-! ## The counter set to zero -/

theorem IndexLaw.rezeroed (h : IndexLaw s) : IndexLaw (s.modPosition (Position.rezeroed s.counterBound)) := by
  obtain ⟨short, spaced, range, lower, upper⟩ := h
  have nonneg := boundOf_nonneg s.settings.standard
  refine ⟨?_, ?_, ?_, ?_⟩
  · exact (List.length_filter_le ..).trans (by simpa using short)
  · refine List.Pairwise.filter _ (List.pairwise_map.2 (spaced.imp fun gap => ?_))
    simp only [State.modPosition_settings]
    omega
  · simp [Position.rezeroed]
  · simp [Position.rezeroed, nonneg]

theorem resetCounter_indexLaw (h : IndexLaw s) : IndexLaw (resetCounter s) := by
  simp only [resetCounter]
  (repeat' split) <;> exact h.rezeroed.congr (by simp) (by simp)

theorem standardChanged_indexLaw (s : State) : IndexLaw (standardChanged s) := by
  simp only [standardChanged]
  split <;> exact IndexLaw.cleared (by simp; rfl)

theorem completeEjection_indexLaw (s : State) : IndexLaw (completeEjection s) := by
  refine IndexLaw.cleared ?_
  simp only [completeEjection]
  simp
  rfl

theorem cassetteOpens_indexLaw (h : IndexLaw s) : IndexLaw (cassetteOpens s) := by
  simp only [cassetteOpens]
  (repeat' split)
  · exact h.congr (by simp) (by simp)
  · exact h.congr (by simp) (by simp)
  · exact completeEjection_indexLaw _
  · exact h.congr (by simp) (by simp)

/-! ## WRITE_SETTING -/

theorem write_standard {n : Nat} (v : Nat) (x : Settings) (other : n ≠ 0) : (x.write n v).standard = x.standard := by
  simp only [Settings.write]
  split <;> first | rfl | exact absurd rfl other

theorem timerOnOff_standard (r : Rank) (arg : Nat) (s : State) :
    (timerOnOff r arg s).2.settings.standard = s.settings.standard := by
  simp only [timerOnOff, setMode, changeSetting]
  (repeat' split) <;> simp [write_standard]

/-- A setting other than *system standard* leaves the tape alone. -/
theorem handSetting_tape {n : Nat} (v : Nat) (s : State) (other : n ≠ 0) :
    (handSetting n v s).position.tape = s.position.tape := by
  simp only [handSetting]
  split
  · exact absurd rfl other
  all_goals (try split) <;> simp

theorem handSetting_indexLaw (n v : Nat) (h : IndexLaw s) : IndexLaw (handSetting n v (changeSetting n v s)) := by
  by_cases other : n = 0
  · subst other
    exact standardChanged_indexLaw _
  · exact h.congr (by simp [handSetting_tape v _ other]) (by simp [changeSetting, write_standard v _ other])

theorem writeSetting_indexLaw (l : Link) (r : Rank) (number : Selector) (value : Value) (h : IndexLaw s) :
    IndexLaw (writeSetting l r number value s).2 := by
  simp only [writeSetting]
  split
  · exact h
  · split
    · have kept := h.congr (timerOnOff_tape r (settingTaken number.toNat value.toNat) s) (timerOnOff_standard r _ s)
      split <;> next answered => simpa [answered] using kept
    · split
      · exact h
      · exact handSetting_indexLaw _ _ h

/-! ## Recovery and the resets -/

/-- A recovery leaves the tape as it was, or cleared where no cassette is found. -/
theorem recover_tape (x : Readings) (s : State) :
    (recover x s).position.tape = s.position.tape ∨ (recover x s).position.tape = ([], 0) := by
  simp only [recover]
  by_cases gone : recovered s.protection.faults.jam x = .empty
  · right
    (repeat' split) <;> simp_all [Position.tape, Position.ejected]
  · left
    (repeat' split) <;> simp_all

theorem recover_indexLaw (x : Readings) (h : IndexLaw s) : IndexLaw (recover x s) := by
  rcases recover_tape x s with kept | cleared
  · exact h.congr kept (by simp)
  · exact IndexLaw.cleared cleared

theorem firstMains_indexLaw (x : Readings) (h : IndexLaw s) : IndexLaw (firstMains x s) := by
  simp only [firstMains]
  have before : IndexLaw (chooseSource (changePower .standby .mainsRestore
      (s.modPower fun p => { p with coldPending := false }))) := h.congr (by simp) (by simp)
  exact (recover_indexLaw x before).congr (by simp) (by simp)

theorem mainsRestore_indexLaw (x : Readings) (h : IndexLaw s) : IndexLaw (mainsRestore x s) := by
  have restored : ∀ u : State, IndexLaw u → IndexLaw (engineRestore (unlockOnEmpty x (recover x u))) :=
    fun u hu => (recover_indexLaw x hu).congr (by simp) (by simp)
  simp only [mainsRestore]
  (repeat' split)
  · exact h
  · exact firstMains_indexLaw x h
  all_goals exact restored _ (h.congr (by simp) (by simp))

theorem coldStart_indexLaw (mains : Bool) (x : Readings) (failed : AreaFlags) (s : State) :
    IndexLaw (coldStart mains x failed s) := by
  have fresh : IndexLaw (computeFlags (loaded (foundStore failed s) s)) := IndexLaw.cleared (by simp; rfl)
  simp only [coldStart]
  split
  · have found := recover_indexLaw x
      (fresh.congr (u := chooseSource (computeFlags (loaded (foundStore failed s) s))) (by simp) (by simp))
    exact found.congr (by simp) (by simp)
  · exact IndexLaw.cleared (by simp; rfl)

theorem lineReset_indexLaw (x : Readings) (h : IndexLaw s) : IndexLaw (lineReset x s) := by
  simp only [lineReset]
  split
  · exact h
  · have fresh : IndexLaw (blocksLineReset (portsLineReset s)) :=
      IndexLaw.cleared (by simp [blocksLineReset]; rfl)
    exact (recover_indexLaw x fresh).congr (by simp) (by simp)

/-! ## Every step -/

/-- The law holds of the next state, where there is one. -/
def KeepsIndex (s : State) (o : Host.Outcome State Fault Refusal) : Prop :=
  IndexLaw s → ∀ t, o = .next t → IndexLaw t

theorem settled_keepsIndex (kept : IndexLaw s → IndexLaw u) : KeepsIndex s (settled u) := by
  rintro h _ ⟨⟩
  exact (kept h).congr (by simp) (by simp)

theorem finished_keepsIndex (kept : IndexLaw s → IndexLaw u) : KeepsIndex s (finished u) := by
  rintro h _ ⟨⟩
  exact (kept h).congr (by simp) (by simp)

theorem acting_keepsIndex {l : Link} {r : Rank} {body : Rank → State → Answered}
    (kept : ∀ r, IndexLaw s → IndexLaw (body r s).2) : KeepsIndex s (acting l r body s) := by
  rintro h _ ⟨⟩
  simp only [request]
  split
  · exact (kept (effectiveRank s l r) h).congr (by simp [frame]) (by simp [frame])
  · exact h

theorem answering_keepsIndex {l : Link} {r : Rank} {body : Rank → State → Answered}
    (kept : ∀ r, IndexLaw s → IndexLaw (body r s).2) : KeepsIndex s (answering l r body s) := by
  rintro h _ ⟨⟩
  simp only [quietRequest]
  split
  · exact (kept (effectiveRank s l r) h).congr (by simp [frame]) (by simp [frame])
  · exact h

theorem recordNote_snd (arg : Arg) (a : Answered) : (recordNote arg a).2 = a.2 := by
  simp only [recordNote]
  (repeat' split) <;> rfl

/-- Every command keeps the law: all but seven by leaving the tape and *system standard* alone. -/
theorem exec_keepsIndex (c : Instr) (s : State) : KeepsIndex s (exec c s) := by
  cases c with
  | controlTrackPulse mark => exact settled_keepsIndex (controlTrackPulse_indexLaw mark)
  | cassetteSwitchOpens => exact settled_keepsIndex cassetteOpens_indexLaw
  | mainsRestore readings => exact settled_keepsIndex (mainsRestore_indexLaw readings)
  | coldStart mains readings failed => exact settled_keepsIndex fun _ => coldStart_indexLaw mains readings failed s
  | lineReset readings => exact settled_keepsIndex (lineReset_indexLaw readings)
  | resetCounter => exact acting_keepsIndex fun _ => resetCounter_indexLaw
  | writeSetting l r number value => exact acting_keepsIndex fun r => writeSetting_indexLaw l r number value
  | frameDiscarded => rintro h _ ⟨⟩; exact h.congr (by simp) (by simp)
  | resetLink => rintro h _ ⟨⟩; exact h.congr (by simp) (by simp)
  | threadRetryDelay | drumLockChange | speedSenseChange | trackStatusTimeout | reelPulse | quietTimerExpiry
  | gapTimerExpiry | synthLockChange | settlingTimeout | aftWindow | storeWriteAck | storeWriteTimeout =>
    exact finished_keepsIndex fun h => h.congr (by simp) (by simp)
  | cassetteSwitchCloses | parkedSwitchCloses | threadedSwitchCloses | insertTimeout | threadTimeout | unthreadTimeout
  | ejectTimeout | stillLimit | recPauseLimit | stopThreadedLimit | oneTouchTimeRunsOut | drumSpinUpTimeout
  | drumLostTimeout | tapeEndSensorActive | tapeStartSensorActive | windLoadTick | stallTimerExpiry | burstPartEnd
  | mainsCycle | crystalTick | dataSlicerByte | searchStepEnd | silenceTimerExpiry | powerReturnTimerExpiry
  | mainsLoss => exact settled_keepsIndex fun h => h.congr (by simp) (by simp)
  | record => exact acting_keepsIndex fun _ h => h.congr (by simp [recordNote_snd]) (by simp [recordNote_snd])
  | play | stop | pause | cue | review | fwind | rwind | eject | clearFaults | searchCounter | searchIndex | setTime
  | selectPreset | tuneStep | searchStation | searchStore | storeEvent | newEvent | deleteEvent | timerLock
  | timerUnlock | powerOn | powerOff => exact acting_keepsIndex fun _ h => h.congr (by simp) (by simp)
  | timerOnOff => exact acting_keepsIndex fun _ h => h.congr (by simp) (by simp [timerOnOff_standard])
  | memoryStop => exact answering_keepsIndex fun _ h => h.congr (by simp) (by simp)
  | _ => exact answering_keepsIndex fun _ h => h.congr (by simp) (by simp)

/-- Settles O27: a step idles or is the command at the front of the queue, and every command keeps the law. -/
theorem indexListKept : Obligations.IndexListKept := by
  intro s t h taken
  simp only [step] at taken
  split at taken
  · cases taken
    exact h
  · next c rest _ => exact exec_keepsIndex c { s with pending := rest } (h.congr rfl rfl) t taken

end Sys2Proof.Machine
end

