-- ==== Sys2Proof/Proofs/Raised.lean ====
section
/-!
PROOF. A state up to what its ports have pending: the statements give a state and the kinds raised on the way to it, so each
operation has here its effect on such a pair, in the words of the statements (Safety).
-/

namespace Sys2Proof.Machine

variable {s u v : State} {ks : KindSet}

/-- The records of `v`, with the ports of `s` in which `ks` was raised. -/
def State.raising (v s : State) (ks : KindSet) : State := { v with ports := raisedPorts s ks }

@[simp] theorem raising_ports (v s : State) (ks : KindSet) : (v.raising s ks).ports = raisedPorts s ks := rfl

@[simp] theorem raising_keeps (v s : State) (ks : KindSet) :
    (v.raising s ks).transport = v.transport ∧ (v.raising s ks).protection = v.protection ∧
    (v.raising s ks).outputs = v.outputs ∧ (v.raising s ks).pins = v.pins ∧ (v.raising s ks).position = v.position ∧
    (v.raising s ks).reels = v.reels ∧ (v.raising s ks).gauge = v.gauge ∧ (v.raising s ks).clock = v.clock ∧
    (v.raising s ks).tuner = v.tuner ∧ (v.raising s ks).presets = v.presets ∧ (v.raising s ks).receiver = v.receiver ∧
    (v.raising s ks).slots = v.slots ∧ (v.raising s ks).engine = v.engine ∧ (v.raising s ks).power = v.power ∧
    (v.raising s ks).settings = v.settings ∧ (v.raising s ks).store = v.store ∧ (v.raising s ks).nv = v.nv ∧
    (v.raising s ks).pending = v.pending ∧ (v.raising s ks).draws = v.draws := by
  repeat' constructor

theorem raising_zero (ports : v.ports = s.ports) : v.raising s 0 = v := by
  rw [State.raising, raisedPorts_zero, ← ports]

theorem noKinds_or (ks : KindSet) : 0 ||| ks = ks := BitVec.zero_or

theorem or_noKinds (ks : KindSet) : ks ||| 0 = ks := BitVec.or_zero

/-- A state is known up to its ports by its other records. -/
theorem eq_raising (ports : u.ports = raisedPorts s ks)
    (records : u.transport = v.transport ∧ u.protection = v.protection ∧ u.outputs = v.outputs ∧ u.pins = v.pins ∧
      u.position = v.position ∧ u.reels = v.reels ∧ u.gauge = v.gauge ∧ u.clock = v.clock ∧ u.tuner = v.tuner ∧
      u.presets = v.presets ∧ u.receiver = v.receiver ∧ u.slots = v.slots ∧ u.engine = v.engine ∧ u.power = v.power ∧
      u.settings = v.settings ∧ u.store = v.store ∧ u.nv = v.nv ∧ u.pending = v.pending ∧ u.draws = v.draws) :
    u = v.raising s ks := by
  cases u
  simp_all [State.raising]

/-- Nothing to be done reads nothing of the tape's position, the outputs or the settings. -/
theorem State.undisturbed.same (idle : s.undisturbed) (engine : u.engine = s.engine) (power : u.power = s.power)
    (transport : u.transport = s.transport) (tuner : u.tuner = s.tuner) (clock : u.clock = s.clock) : u.undisturbed :=
  State.undisturbed.congr engine power (by rw [transport]) (by rw [transport]) (by rw [tuner])
    (by rw [State.now, clock, State.now]) idle

theorem State.undisturbed.raising (idle : v.undisturbed) (s : State) (ks : KindSet) : (v.raising s ks).undisturbed :=
  idle.same rfl rfl rfl rfl rfl

theorem WriterLaw.raising (lawful : WriterLaw v) (s : State) (ks : KindSet) : WriterLaw (v.raising s ks) :=
  WriterLaw.congr (s := v) (by simp) (by simp) lawful

/-! ## The ends of a step -/

/-- A settled event whose kinds are known. -/
theorem settled_raising (same : u = v.raising s ks) (power : v.power.state = s.power.state) (idle : v.undisturbed)
    (lawful : WriterLaw v) : settled u = .next { v with ports := portsAfter s none ks } := by
  subst same
  rw [settled_undisturbed (idle.raising s ks) (lawful.raising s ks), judged_raised (u := v.raising s ks) power rfl]
  rfl

/-- An event that reaches neither the engine nor the supplies, whose kinds are known. -/
theorem finished_raising (same : u = v.raising s ks) (power : v.power.state = s.power.state) (lawful : WriterLaw v) :
    finished u = .next { v with ports := portsAfter s none ks } := by
  subst same
  rw [finished_next (lawful.raising s ks), judged_raised (u := v.raising s ks) power rfl]
  rfl

/-- A frame that may reach the engine and whose kinds are known. -/
theorem acting_raising {l : Link} {r : Rank} {body : Rank → State → Answered} {a : Answer}
    (live : liveIn s.power.state l = true) (same : body (effectiveRank s l r) s = (a, v.raising s ks))
    (power : v.power.state = s.power.state) (idle : v.undisturbed) (lawful : WriterLaw v) :
    acting l r body s = .next { v with ports := portsAfter s (some (l, a.holder)) ks } := by
  rw [acting_undisturbed live (by rw [same]; exact idle.raising s ks) (by rw [same]; exact lawful.raising s ks), same,
    answered_raised (u := v.raising s ks) power rfl]
  rfl

/-- The three again, for what raises no kind. -/
theorem settled_silent (ports : v.ports = s.ports) (power : v.power.state = s.power.state) (idle : v.undisturbed)
    (lawful : WriterLaw v) : settled v = .next { v with ports := portsAfter s none 0 } :=
  settled_raising (raising_zero ports).symm power idle lawful

theorem finished_silent (ports : v.ports = s.ports) (power : v.power.state = s.power.state) (lawful : WriterLaw v) :
    finished v = .next { v with ports := portsAfter s none 0 } :=
  finished_raising (raising_zero ports).symm power lawful

theorem acting_silent {l : Link} {r : Rank} {body : Rank → State → Answered} {a : Answer}
    (live : liveIn s.power.state l = true) (same : body (effectiveRank s l r) s = (a, v)) (ports : v.ports = s.ports)
    (power : v.power.state = s.power.state) (idle : v.undisturbed) (lawful : WriterLaw v) :
    acting l r body s = .next { v with ports := portsAfter s (some (l, a.holder)) 0 } :=
  acting_raising live (by rw [same, raising_zero ports]) power idle lawful

/-- A frame that reaches its own block alone and raises no kind. -/
theorem answering_silent {l : Link} {r : Rank} {body : Rank → State → Answered} {a : Answer}
    (live : liveIn s.power.state l = true) (same : body (effectiveRank s l r) s = (a, v)) (ports : v.ports = s.ports)
    (power : v.power = s.power) (lawful : WriterLaw v) :
    answering l r body s = .next { v with ports := portsAfter s (some (l, a.holder)) 0 } := by
  rw [answering_next live (by rwa [same]), same, answered_ports power ports]

/-! ## Kinds raised -/

theorem raise_raising (k : Kind) (power : v.power.state = s.power.state) :
    raise k (v.raising s ks) = v.raising s (ks ||| k.single) :=
  eq_raising (raise_raisedPorts k power rfl) (by simp)

theorem raiseIf_raising (c : Bool) (k : Kind) (power : v.power.state = s.power.state) :
    raiseIf c k (v.raising s ks) = v.raising s (ks ||| if c then k.single else 0) :=
  eq_raising (raiseIf_raisedPorts c k power rfl) (by simp)

/-! ## Entering a state -/

@[simp] theorem enter_transport (new : TState) (s : State) :
    (enter new s).transport = s.transport.entered new s.pins.speedSense := by
  simp only [enter]
  split <;> simp

@[simp] theorem enter_position (new : TState) (s : State) :
    (enter new s).position = s.position.entered s.transport.state new := by
  simp only [enter]
  split <;> simp

@[simp] theorem enter_reels (new : TState) (s : State) : (enter new s).reels =
    s.reels.entered s.transport.state new (s.transport.entered new s.pins.speedSense).speed := by
  simp only [enter]
  split <;> simp

@[simp] theorem enter_gauge (new : TState) (s : State) :
    (enter new s).gauge = if new.motion = .atRest then s.gauge.atRest else s.gauge := by
  simp only [enter]
  split <;> simp [gaugeAtRest]

@[simp] theorem enter_outputs (new : TState) (s : State) : (enter new s).outputs =
    s.outputs.driven new (s.transport.entered new s.pins.speedSense).speed s.transport.recordSpeed
      (enter new s).reels.burst := by
  simp only [enter_reels]
  simp only [enter, driveOutputs]
  split <;> simp [Transport.entered]

theorem gaugeAtRest_ports (power : v.power.state = s.power.state) (ports : v.ports = raisedPorts s ks) :
    (gaugeAtRest v).ports = raisedPorts s (ks ||| if v.gauge.estimate = .current then 0x00020#18 else 0) := by
  have raised := raiseIf_raisedPorts (s := s) (u := v.modGauge Gauge.atRest) (ks := ks)
    (v.gauge.estimate == .current) .gauge power ports
  simpa [gaugeAtRest, Kind.single, Kind.bit] using raised

theorem enter_ports (new : TState) (power : v.power.state = s.power.state) (ports : v.ports = raisedPorts s ks) :
    (enter new v).ports = raisedPorts s (ks ||| enterKinds new v) := by
  have order : enterKinds new v =
      (if new.motion = .atRest ∧ v.gauge.estimate = .current then 0x00020#18 else 0) |||
        if v.transport.state != new then Kind.transport.single else 0 := by
    rw [enterKinds, BitVec.or_comm]
    simp [Kind.single, Kind.bit]
  rw [order, ← BitVec.or_assoc, enter]
  refine raiseIf_raisedPorts _ _ ?_ ?_
  · split <;> simpa using power
  · split
    · next rest =>
      simp only [rest, true_and, driveOutputs_keeps]
      exact gaugeAtRest_ports power ports
    · next moves => simpa [moves] using ports

theorem enter_raising (new : TState) (power : v.power.state = s.power.state) :
    enter new (v.raising s ks) = (enter new v).raising s (ks ||| enterKinds new v) :=
  eq_raising (enter_ports new power rfl) (by simp)

/-! ## The ending of a search and the release of the holder -/

/-- A state in which a running search has ended with an outcome (R52). -/
def State.searchEnded (o : SearchOutcome) (v : State) : State := { v with position := endedSearch o v.position }

/-- A state whose holder is released where the tape rests (R6). -/
def State.holderReleased (v : State) : State := { v with transport := released v.transport }

theorem endSearch_raising (o : SearchOutcome) (power : v.power.state = s.power.state) :
    endSearch o (v.raising s ks) = (v.searchEnded o).raising s (ks ||| endKinds v) := by
  simp only [endSearch, raising_keeps, State.searchEnded, endedSearch, endKinds]
  cases v.position.search with
  | none => simp
  | some r => exact raise_raising (v := { v with position := v.position.ended r o }) .searchEnd power

theorem releaseAtRest_raising (v s : State) (ks : KindSet) :
    releaseAtRest (v.raising s ks) = v.holderReleased.raising s ks := by
  have same : (if v.transport.releases then { v.transport with holder := .none } else v.transport) =
      released v.transport := by
    obtain ⟨state, intent, holder, _⟩ := v.transport
    cases holder <;> cases intent <;> simp [Transport.releases, released, Holder.ofLink, or_assoc]
    all_goals split <;> rfl
  simp only [releaseAtRest, raising_keeps, State.holderReleased, ← same]
  split <;> rfl

theorem askStop_raising (power : v.power.state = s.power.state) (running : v.transport.state.running = true) :
    askStop (v.raising s ks) = (enter .stop v).holderReleased.raising s (ks ||| enterKinds .stop v) := by
  simp only [askStop, raising_keeps, running, if_true]
  rw [enter_raising .stop power, releaseAtRest_raising]

end Sys2Proof.Machine
end

