-- ==== Sys2Proof/Proofs/Pulse.lean ====
section
/-!
PROOF. The control-track pulse (R37, R41 to R43): the counting that every pulse in motion begins with, and what follows it
with no search running.
-/

namespace Sys2Proof.Machine

variable {s : State}

/-! ## Counting and the marks -/

/-- The counter after a pulse in motion: one on, held at the bound (R37). -/
def State.nextCounter (s : State) : Int :=
  if s.position.direction = .forward then min (s.position.counter + 1) (boundOf s.settings.standard)
  else max (s.position.counter - 1) (-boundOf s.settings.standard)

theorem countedIn_moving {bound counter : Int} {d : Direction} (moving : d ≠ .atRest) (lower : -bound ≤ counter)
    (upper : counter ≤ bound) :
    countedIn bound d counter = if d = .forward then min (counter + 1) bound else max (counter - 1) (-bound) := by
  cases d with
  | atRest => exact absurd rfl moving
  | forward => simp only [countedIn, saturate, if_true]; (repeat' split) <;> omega
  | reverse => simp only [countedIn, saturate, reduceCtorEq, if_false]; (repeat' split) <;> omega

/-- Whether a counted pulse writes the pending mark (R42), and whether one that is flagged is read (R43). -/
def State.writesMark (s : State) : Bool := s.position.pendingMark && s.transport.state == .record

def State.readsMark (mark : Bool) (s : State) : Bool :=
  mark && [TState.play, .cue, .review, .fwind, .rwind].contains s.transport.state

/-- The state after a counted pulse, a mark of it written or not, the position offered to the index list or not. -/
def State.counted (writes offers : Bool) (s : State) : State :=
  let c := s.nextCounter
  { s with
    outputs := { s.outputs with strobe := writes }
    position := { s.position with
      counter := c
      trackPresent := true
      index := if offers then admitMark (framesOf s.settings.standard) c c s.position.index else s.position.index
      pendingMark := s.position.pendingMark && !writes } }

theorem readsMark_eq (mark : Bool) (s : State) : s.readsMark mark = (mark && s.transport.state.detects) := by
  simp only [State.readsMark]
  cases s.transport.state <;> rfl

/-- No mark is read where one is written: RECORD is not a state of detection. -/
theorem readsMark_of_writesMark (mark : Bool) (writes : s.writesMark = true) : s.readsMark mark = false := by
  have record : s.transport.state = .record := by simp_all [State.writesMark]
  simp [readsMark_eq, record, TState.detects]

/-- The counting that begins every pulse in motion. -/
theorem modPosition_counted (moving : s.position.direction ≠ .atRest)
    (lower : -boundOf s.settings.standard ≤ s.position.counter)
    (upper : s.position.counter ≤ boundOf s.settings.standard) :
    s.modPosition (fun p => { p with counter := countedIn s.counterBound p.direction p.counter, trackPresent := true }) =
      { s with position := { s.position with counter := s.nextCounter, trackPresent := true } } := by
  have counter : countedIn (boundOf s.settings.standard) s.position.direction s.position.counter = s.nextCounter :=
    countedIn_moving moving lower upper
  rw [counterBound_eq_boundOf, ← counter]
  rfl

theorem offerMark_counted (writes : Bool) (s : State) : offerMark (s.counted writes false) = s.counted writes true := by
  simp only [offerMark, State.counted, framesOf_eq_frames]
  rfl

theorem writeMark_counted (s : State) :
    writeMark { s with position := { s.position with counter := s.nextCounter, trackPresent := true } } =
      s.counted s.writesMark s.writesMark := by
  have split_ : s.writesMark = (s.position.pendingMark && s.transport.state == .record) := rfl
  simp only [writeMark, ← split_]
  cases s.writesMark
  · simp [State.modOutputs, State.counted]
  · simp [State.modOutputs, State.counted, State.modPosition, offerMark, framesOf_eq_frames]

theorem detectMark_counted (mark : Bool) (s : State) :
    detectMark mark (s.counted s.writesMark s.writesMark) =
      if s.readsMark mark then countMark (s.counted s.writesMark true)
      else s.counted s.writesMark s.writesMark := by
  have reads : s.readsMark mark = (mark && (s.counted s.writesMark s.writesMark).transport.state.detects) :=
    readsMark_eq mark s
  rw [detectMark, ← reads]
  split
  · next read =>
    cases writes : s.writesMark
    · rw [offerMark_counted]
    · exact absurd read (by simp [readsMark_of_writesMark mark writes])
  · rfl

/-- A pulse in motion: counted, a mark written or read, a search judged, then memory stop. -/
theorem controlTrackPulse_moving (mark : Bool) (power : s.power.state ≠ .hold) (moving : s.position.direction ≠ .atRest)
    (lower : -boundOf s.settings.standard ≤ s.position.counter)
    (upper : s.position.counter ≤ boundOf s.settings.standard) :
    controlTrackPulse mark s =
      let u := judgeSearchTarget
        (if s.readsMark mark then countMark (s.counted s.writesMark true) else s.counted s.writesMark s.writesMark)
      if u.position.memoryStop && !s.position.search.isSome &&
          reachesZero u.transport.state s.position.counter u.position.counter then memoryStops u
      else u := by
  rw [controlTrackPulse, if_neg (by simpa [State.inHold] using power), if_neg moving]
  simp only [modPosition_counted moving lower upper, writeMark_counted, detectMark_counted]

/-! ## With no search running -/

/-- A wind that a pulse brings to zero under memory stop (R41). -/
def State.stopsAtZero (s : State) : Bool :=
  s.position.memoryStop &&
    (s.transport.state == .fwind && s.position.counter == -1 || s.transport.state == .rwind && s.position.counter == 1)

theorem reachesZero_counted (directed : s.position.direction = s.transport.state.motion) :
    (s.position.memoryStop && reachesZero s.transport.state s.position.counter s.nextCounter) = s.stopsAtZero := by
  have nonneg := boundOf_nonneg s.settings.standard
  have next : s.transport.state = .fwind ∧ s.position.counter = -1 ∨ s.transport.state = .rwind ∧ s.position.counter = 1 →
      s.nextCounter = 0 := by
    rintro (⟨wind, at_⟩ | ⟨wind, at_⟩) <;>
      simp [State.nextCounter, directed, wind, at_, TState.motion, nonneg]
  rw [State.stopsAtZero, Bool.eq_iff_iff]
  simp only [reachesZero, Bool.and_eq_true, Bool.or_eq_true, beq_iff_eq]
  tauto

/-- A state whose last ending is a memory stop's (R41). -/
def State.memoryEnded (v : State) : State :=
  { v with position := { v.position with lastEnding := some ⟨.memory, .found, 0, v.transport.holder.link?⟩ } }

theorem memoryStops_raising {v : State} {ks : KindSet} (power : v.power.state = s.power.state)
    (running : v.transport.state.running = true) :
    memoryStops (v.raising s ks) =
      (enter .stop v.memoryEnded).holderReleased.raising s (ks ||| 0x00010#18 ||| enterKinds .stop v) := by
  have raised := raise_raising (ks := ks) (v := v.memoryEnded) .searchEnd power
  have stopped := askStop_raising (ks := ks ||| Kind.searchEnd.single) (v := v.memoryEnded) power running
  rw [← raised] at stopped
  exact stopped

theorem controlTrackPulse_unsearched (mark : Bool) (power : s.power.state ≠ .hold)
    (moving : s.position.direction ≠ .atRest) (lower : -boundOf s.settings.standard ≤ s.position.counter)
    (upper : s.position.counter ≤ boundOf s.settings.standard) (unsearched : s.position.search = none)
    (directed : s.position.direction = s.transport.state.motion) :
    controlTrackPulse mark s =
      let u := s.counted s.writesMark (s.writesMark || s.readsMark mark)
      if s.stopsAtZero then memoryStops u else u := by
  have judged : judgeSearchTarget
      (if s.readsMark mark then countMark (s.counted s.writesMark true) else s.counted s.writesMark s.writesMark) =
      s.counted s.writesMark (s.writesMark || s.readsMark mark) := by
    cases s.readsMark mark <;> simp [judgeSearchTarget, countMark, State.counted, unsearched]
  rw [controlTrackPulse_moving mark power moving lower upper, judged, ← reachesZero_counted directed]
  simp [State.counted, unsearched]

/-- A wind brought to zero under memory stop. -/
theorem controlTrackPulse_stopping (mark : Bool) (power : s.power.state ≠ .hold)
    (moving : s.position.direction ≠ .atRest) (lower : -boundOf s.settings.standard ≤ s.position.counter)
    (upper : s.position.counter ≤ boundOf s.settings.standard) (unsearched : s.position.search = none)
    (directed : s.position.direction = s.transport.state.motion) (stops : s.stopsAtZero = true) :
    controlTrackPulse mark s =
      (enter .stop (s.counted s.writesMark (s.writesMark || s.readsMark mark)).memoryEnded).holderReleased.raising s
        (enterKinds .stop s ||| 0x00010#18) := by
  have winds : s.transport.state.running = true := by
    simp only [State.stopsAtZero, Bool.and_eq_true, Bool.or_eq_true, beq_iff_eq] at stops
    rcases stops.2 with ⟨wind, _⟩ | ⟨wind, _⟩ <;> simp [wind, TState.running]
  have ended := memoryStops_raising (s := s) (ks := 0)
    (v := s.counted s.writesMark (s.writesMark || s.readsMark mark)) rfl winds
  rw [raising_zero (by rfl)] at ended
  rw [controlTrackPulse_unsearched mark power moving lower upper unsearched directed, BitVec.or_comm (enterKinds .stop s)]
  simp only [stops, if_true]
  exact ended

/-- Settles O25: outside motion the pulse ends a strobe; in motion it is counted, and under memory stop a wind may end. -/
theorem pulseCounts : Obligations.PulseCounts := by
  intro mark s power idle lawful unsearched
  have running : ¬ s.inHold = true := by simpa [State.inHold] using power
  refine ⟨fun rest => ?_, fun moving => ?_, fun directed moving lower upper => ⟨fun goes => ?_, fun stops quiet => ?_⟩⟩
  · have pulse : controlTrackPulse mark s = { s with outputs := { s.outputs with strobe := false } } := by
      rw [controlTrackPulse, if_neg running, if_pos rest]
      rfl
    simp only [exec, execControlTrackPulse, pulse]
    exact settled_silent rfl rfl (idle.same rfl rfl rfl rfl rfl) (lawful.congr rfl rfl)
  · have expiry : trackTimesOut s = { s with position := { s.position with trackPresent := false } } := by
      rw [trackTimesOut, if_pos ⟨running, moving⟩]
      rfl
    simp only [exec, execTrackStatusTimeout, expiry]
    exact finished_silent rfl rfl (lawful.congr rfl rfl)
  · have pulse : controlTrackPulse mark s = s.counted s.writesMark (s.writesMark || s.readsMark mark) := by
      rw [controlTrackPulse_unsearched mark power moving lower upper unsearched directed]
      exact if_neg (ne_true_of_eq_false goes)
    simp only [exec, execControlTrackPulse, pulse]
    exact settled_silent rfl rfl (idle.same rfl rfl rfl rfl rfl) (lawful.congr rfl rfl)
  · have pulse := controlTrackPulse_stopping mark power moving lower upper unsearched directed stops
    refine settled_raising pulse ?_ (State.quiet.congr ?_ ?_ quiet).undisturbed (lawful.congr ?_ ?_) <;>
      simp [State.holderReleased, State.memoryEnded, State.counted]

end Sys2Proof.Machine
end

