-- ==== Sys2Proof/Proofs/SearchMoves.lean ====
section
/-!
PROOF. What a search asks of the transport where no fault and no tape sensor stands in the way (R46, R48, R52): the move to a
wind or a scan, and the two end actions.
-/

namespace Sys2Proof.Machine

variable {s v : State} {ks : KindSet}

/-! ## Moves that nothing hinders -/

/-- No fault is latched and no tape sensor is active. -/
def State.unhindered (s : State) : Prop :=
  s.protection.faults = ⟨false, false, false, false, false, false⟩ ∧ s.pins.tapeEnd = false ∧ s.pins.tapeStart = false

theorem State.unhindered.same (free : s.unhindered) (protection : v.protection = s.protection) (pins : v.pins = s.pins) :
    v.unhindered := by rwa [State.unhindered, protection, pins]

theorem State.unhindered.blocks (free : s.unhindered) (t : TState) : s.protection.faults.blocks t = false := by
  rw [free.1]
  cases t <;> rfl

theorem State.unhindered.edgeToward (free : s.unhindered) (t : TState) : s.pins.edgeToward t = false := by
  cases t <;> simp [Pins.edgeToward, free.2.1, free.2.2]

theorem State.unhindered.intentHolds (free : s.unhindered) : intentHolds s .play = true := by
  simp [Machine.intentHolds, hindrance, Intent.target, free.blocks, free.edgeToward]

/-- A move of a search that nothing hinders (R46). -/
theorem searchMove_unhindered (t : TState) (free : s.unhindered) : searchMove t s = movedTo t s := by
  simp [searchMove, movedTo, free.blocks, free.edgeToward]

/-- The kinds of entering a state in motion from another. -/
theorem enterKinds_moving {new : TState} (other : s.transport.state ≠ new) (moves : new.motion ≠ .atRest) :
    enterKinds new s = 0x00001#18 := by
  simp [enterKinds, other, moves]

/-! ## The end actions -/

theorem endKinds_running {r : Search} (running : v.position.search = some r) : endKinds v = 0x00010#18 := by
  simp [endKinds, running]

/-- The end action PLAY where nothing hinders it (R48, R52). -/
theorem searchFound_moving {r : Search} (running : v.position.search = some r) (plays : r.endPlay = true)
    (power : v.power.state = s.power.state) (holds : Machine.intentHolds v .play = true) :
    searchFound r (v.raising s ks) = (movedTo .play (v.searchEnded .found)).raising s
      (ks ||| 0x00010#18 ||| if v.transport.state = .play then 0 else 0x00001#18) := by
  have holds : Machine.intentHolds ((v.searchEnded .found).raising s (ks ||| 0x00010#18)) .play = true := holds
  rw [searchFound, endSearch_raising .found power, endKinds_running running, endAction, if_pos plays]
  by_cases there : v.transport.state = .play
  · rw [if_pos (by exact there), if_pos there, movedTo, if_pos (by exact there), or_noKinds]
  · have other : (v.searchEnded .found).transport.state ≠ .play := there
    rw [if_neg (by exact other), if_pos holds, enter_raising .play (by exact power), enterKinds_moving other (by decide),
      if_neg there, movedTo, if_neg other]

theorem searchFound_playing {r : Search} (running : v.position.search = some r) (plays : r.endPlay = true)
    (power : v.power.state = s.power.state) (other : v.transport.state ≠ .play) (free : v.unhindered) :
    searchFound r (v.raising s ks) =
      (enter .play (v.searchEnded .found)).raising s (ks ||| 0x00010#18 ||| 0x00001#18) := by
  rw [searchFound_moving running plays power free.intentHolds, if_neg other, movedTo, if_neg (by exact other)]

theorem searchFound_stopping {r : Search} (running : v.position.search = some r) (stops : r.endPlay = false)
    (power : v.power.state = s.power.state) (runs : v.transport.state.running = true) :
    searchFound r (v.raising s ks) = (enter .stop (v.searchEnded .found)).holderReleased.raising s
      (ks ||| 0x00010#18 ||| enterKinds .stop v) := by
  rw [searchFound, endSearch_raising .found power, endKinds_running running, endAction, if_neg (by simp [stops]),
    askStop_raising (v := v.searchEnded .found) power runs]
  rfl

/-- The end action STOP where the tape does not run: the holder alone is released. -/
theorem searchFound_resting {r : Search} (running : v.position.search = some r) (stops : r.endPlay = false)
    (power : v.power.state = s.power.state) (rests : v.transport.state.running = false) :
    searchFound r (v.raising s ks) = (v.searchEnded .found).holderReleased.raising s (ks ||| 0x00010#18) := by
  have rests : (v.searchEnded .found).transport.state.running = false := rests
  rw [searchFound, endSearch_raising .found power, endKinds_running running, endAction, if_neg (by simp [stops]), askStop,
    if_neg (by simp [rests]), releaseAtRest_raising]

/-! ## What entering a state leaves to be done -/

/-- Entering a state other than a rest and RECORD from one that is not INSERTING leaves nothing to be done. -/
theorem undisturbed_enter_away {new : TState} (idle : s.undisturbed) (from_ : s.transport.state ≠ .inserting)
    (away : new.resting = false) (plays : new ≠ .record) : (enter new s).undisturbed := by
  refine State.undisturbed.moved (s := s) (by simp) (by simp) (by simp [State.now]) ?_ ?_ (.inr ⟨from_, ?_, ?_⟩) idle
  · simp [State.transportBusy, Transport.entered]
  · simp [State.tunerBusy]
  · simpa [Transport.entered] using away
  · simp [Transport.entered, plays]

theorem undisturbed_enter {new : TState} (idle : s.undisturbed) (from_ : s.transport.state ≠ .inserting)
    (moves : new.motion ≠ .atRest) (plays : new ≠ .record) : (enter new s).undisturbed := by
  refine undisturbed_enter_away idle from_ ?_ plays
  revert moves
  cases new <;> simp [TState.resting, TState.motion]

theorem lawful_enter (new : TState) (lawful : WriterLaw s) : WriterLaw (enter new s) :=
  lawful.congr (by simp) (by simp)

/-- An event that comes to entering a state in motion. -/
theorem settled_entering {u : State} {new : TState} (same : u = (enter new v).raising s ks)
    (power : v.power.state = s.power.state) (idle : v.undisturbed) (lawful : WriterLaw v)
    (from_ : v.transport.state ≠ .inserting) (moves : new.motion ≠ .atRest) (plays : new ≠ .record) :
    settled u = .next { enter new v with ports := portsAfter s none ks } :=
  settled_raising same (by simpa using power) (undisturbed_enter idle from_ moves plays) (lawful_enter new lawful)

/-- An event that comes to STOP with the holder released. -/
theorem settled_stopping {u : State} (same : u = (enter .stop v).holderReleased.raising s ks)
    (power : v.power.state = s.power.state) (quiet : v.quiet) (lawful : WriterLaw v) :
    settled u = .next { (enter .stop v).holderReleased with ports := portsAfter s none ks } :=
  settled_raising same (by simpa [State.holderReleased] using power)
    (State.quiet.congr (by simp [State.holderReleased]) (by simp [State.holderReleased]) quiet).undisturbed
    (lawful.congr (by simp [State.holderReleased]) (by simp [State.holderReleased]))

@[simp] theorem entered_search (old new : TState) (p : Position) : (p.entered old new).search = p.search := by
  simp only [Position.entered]
  split <;> rfl

@[simp] theorem endedSearch_search (o : SearchOutcome) (p : Position) : (endedSearch o p).search = none := by
  simp only [endedSearch]
  split <;> simp [*]

/-! ## A search judged after a pulse -/

/-- A pulse with a search running: memory stop does not apply (R41). -/
theorem controlTrackPulse_searching (mark : Bool) (power : s.power.state ≠ .hold)
    (moving : s.position.direction ≠ .atRest) (lower : -boundOf s.settings.standard ≤ s.position.counter)
    (upper : s.position.counter ≤ boundOf s.settings.standard) {x : Search} (searching : s.position.search = some x)
    (unmarked : s.position.pendingMark = false) :
    controlTrackPulse mark s = judgeSearchTarget
      (if s.readsMark mark then countMark (s.counted false true) else s.counted false false) := by
  have writes : s.writesMark = false := by simp [State.writesMark, unmarked]
  rw [controlTrackPulse_moving mark power moving lower upper, writes]
  simp [searching]

end Sys2Proof.Machine
end

