-- ==== Sys2Proof/Proofs/SearchJudged.lean ====
section
/-!
PROOF. A search judged after a counted pulse (R48, R50): one equation for each phase and mode, then the statement.
-/

namespace Sys2Proof.Machine

variable {s u : State} {x : Search} {target : Int} {n : Nat}

/-! ## The judging, case by case -/

/-- A state with a running search. -/
def State.searching (x : Search) (s : State) : State := { s with position := { s.position with search := some x } }

theorem judge_far (running : u.position.search = some x) (mode : x.mode = .target target) (phase : x.phase = .wind)
    (far : ¬ (target - u.position.counter).natAbs ≤ 10 * framesOf u.settings.standard) : judgeSearchTarget u = u := by
  rw [framesOf_eq_frames] at far
  simp [judgeSearchTarget, running, mode, phase, distance, State.approachDistance, far]

theorem judge_near (running : u.position.search = some x) (mode : x.mode = .target target) (phase : x.phase = .wind)
    (near : (target - u.position.counter).natAbs ≤ 10 * framesOf u.settings.standard) (free : u.unhindered) :
    judgeSearchTarget u = movedTo (scanOf x.direction) (u.searching { x with phase := .approach }) := by
  rw [framesOf_eq_frames] at near
  rw [← searchMove_unhindered (s := u.searching _) _ (free.same rfl rfl)]
  simp only [judgeSearchTarget, running, mode, phase, distance, State.approachDistance, near, if_true]
  rfl

theorem judge_approaching (running : u.position.search = some x) (mode : x.mode = .target target)
    (phase : x.phase = .approach) :
    judgeSearchTarget u = if target = u.position.counter then searchFound x u else u := by
  simp [judgeSearchTarget, running, mode, phase]

theorem judge_counting (running : u.position.search = some x) (mode : x.mode = .counting n) : judgeSearchTarget u = u := by
  simp [judgeSearchTarget, running, mode]

theorem judge_ended (ended : u.position.search = none) : judgeSearchTarget u = u := by simp [judgeSearchTarget, ended]

theorem countMark_counting (running : u.position.search = some x) (mode : x.mode = .counting n) (phase : x.phase = .wind)
    (winds : u.transport.state.winding = true) :
    countMark u = if n ≤ 1 then searchFound x u else u.searching { x with mode := .counting (n - 1) } := by
  simp only [countMark, running, mode, phase, winds, and_self, if_true]
  rfl

/-! ## The pulse before the judging -/

/-- A state after a pulse with no mark pending, its position offered to the index list or not. -/
def State.passed (offers : Bool) (s : State) : State :=
  { s with
    outputs := { s.outputs with strobe := false }
    position := { s.position with
      counter := s.nextCounter
      trackPresent := true
      index := if offers then
          admitMark (framesOf s.settings.standard) s.nextCounter s.nextCounter s.position.index
        else s.position.index } }

theorem counted_unmarked (offers : Bool) (unmarked : s.position.pendingMark = false) :
    s.counted false offers = s.passed offers := by
  simp [State.counted, State.passed, unmarked]

/-- What O30 asks of a state: main power ON, the tape in motion with a search running and nothing in its way. -/
structure State.Searching (s : State) (x : Search) : Prop where
  power : s.power.state = .on
  running : s.position.search = some x
  unmarked : s.position.pendingMark = false
  free : s.unhindered
  directed : s.position.direction = s.transport.state.motion
  lower : -boundOf s.settings.standard ≤ s.position.counter
  upper : s.position.counter ≤ boundOf s.settings.standard

theorem State.Searching.pulse (h : s.Searching x) (moves : s.transport.state.motion ≠ .atRest) (mark : Bool) :
    controlTrackPulse mark s =
      judgeSearchTarget (if s.readsMark mark then countMark (s.passed true) else s.passed false) := by
  rw [controlTrackPulse_searching mark (by simp [h.power]) (by rw [h.directed]; exact moves) h.lower h.upper h.running
    h.unmarked, counted_unmarked true h.unmarked, counted_unmarked false h.unmarked]

theorem State.Searching.passed (h : s.Searching x) (offers : Bool) : (s.passed offers).position.search = some x :=
  h.running

theorem State.Searching.unhindered (h : s.Searching x) (offers : Bool) : (s.passed offers).unhindered :=
  h.free.same rfl rfl

theorem State.Searching.pulse_unflagged (h : s.Searching x) (moves : s.transport.state.motion ≠ .atRest) :
    controlTrackPulse false s = judgeSearchTarget (s.passed false) := by
  simpa [State.readsMark] using h.pulse moves false

/-- A flagged pulse in a wind state is read (R43). -/
theorem State.Searching.pulse_flagged (h : s.Searching x) (winds : s.transport.state.winding = true) :
    controlTrackPulse true s = judgeSearchTarget (countMark (s.passed true)) := by
  have moves : s.transport.state.motion ≠ .atRest := by
    rcases (by simpa [TState.winding] using winds : s.transport.state = .fwind ∨ s.transport.state = .rwind) with wind | wind <;>
      simp [wind, TState.motion]
  have reads : s.readsMark true = true := by
    rw [readsMark_eq]
    revert winds
    cases s.transport.state <;> simp [TState.winding, TState.detects]
  rw [h.pulse moves, if_pos reads]

/-! ## The statement -/

theorem winding_iff (t : TState) : t.winding = true ↔ t = .fwind ∨ t = .rwind := by simp [TState.winding]

theorem winding_from {t : TState} (winds : t = .fwind ∨ t = .rwind) : t ≠ .inserting := by
  rcases winds with rfl | rfl <;> decide

theorem scanning_from {t : TState} (scans : t = .cue ∨ t = .review) : t ≠ .inserting := by
  rcases scans with rfl | rfl <;> decide

theorem winding_motion {t : TState} (winds : t = .fwind ∨ t = .rwind) : t.motion ≠ .atRest := by
  rcases winds with rfl | rfl <;> decide

theorem scanning_motion {t : TState} (scans : t = .cue ∨ t = .review) : t.motion ≠ .atRest := by
  rcases scans with rfl | rfl <;> decide

theorem scanOf_motion (d : Option Direction) : (scanOf d).motion ≠ .atRest := by
  simp only [scanOf]
  split <;> decide

theorem scanOf_ne_record (d : Option Direction) : scanOf d ≠ .record := by
  simp only [scanOf]
  split <;> decide

/-- The search found in PLAY after a pulse. -/
theorem State.Searching.found_playing (h : s.Searching x) (offers : Bool) (plays : x.endPlay = true)
    (other : s.transport.state ≠ .play) :
    searchFound x (s.passed offers) = (enter .play ((s.passed offers).searchEnded .found)).raising s 0x00011#18 := by
  have found := searchFound_playing (s := s) (ks := 0) (h.passed offers) plays rfl other (h.unhindered offers)
  rwa [raising_zero (by rfl)] at found

/-- Settles O30: each phase and mode of a search judged after a counted pulse. -/
theorem searchJudgedAfterPulse : Obligations.SearchJudgedAfterPulse := by
  intro x target n s power idle lawful running unmarked faults tapeEnd tapeStart directed lower upper
  have h : s.Searching x := ⟨power, running, unmarked, ⟨faults, tapeEnd, tapeStart⟩, directed, lower, upper⟩
  have passed_idle : ∀ offers, (s.passed offers).undisturbed := fun offers => idle.same rfl rfl rfl rfl rfl
  have passed_lawful : ∀ offers, WriterLaw (s.passed offers) := fun offers => lawful.congr rfl rfl
  refine ⟨fun mode => ⟨fun winds phase far => ?_, fun winds phase near => ?_, fun scans phase away => ?_,
    fun scans phase there plays => ?_, fun scans phase there stops quiet => ?_⟩,
    fun mode phase winds plays => ⟨fun more => ?_, fun last => ?_⟩⟩
  · have judged : controlTrackPulse false s = s.passed false := by
      rw [h.pulse_unflagged (winding_motion winds), judge_far (h.passed false) mode phase far]
    simp only [exec, execControlTrackPulse, judged]
    exact settled_silent rfl rfl (passed_idle false) (passed_lawful false)
  · let v := (s.passed false).searching { x with phase := .approach }
    have other : v.transport.state ≠ scanOf x.direction := by
      simp only [scanOf]
      rcases winds with wind | wind <;> split <;> simp [v, State.searching, State.passed, wind]
    have judged : controlTrackPulse false s = (enter (scanOf x.direction) v).raising s 0x00001#18 := by
      have entered := enter_raising (s := s) (v := v) (ks := 0) (scanOf x.direction) rfl
      rw [raising_zero (by rfl), enterKinds_moving other (scanOf_motion _)] at entered
      rw [h.pulse_unflagged (winding_motion winds), judge_near (h.passed false) mode phase near (h.unhindered false),
        movedTo, if_neg other]
      exact entered
    exact settled_entering judged rfl (idle.same rfl rfl rfl rfl rfl) (lawful.congr rfl rfl)
      (winding_from winds) (scanOf_motion _) (scanOf_ne_record _)
  · have judged : controlTrackPulse false s = s.passed false := by
      rw [h.pulse_unflagged (scanning_motion scans), judge_approaching (h.passed false) mode phase]
      exact if_neg (Ne.symm away)
    simp only [exec, execControlTrackPulse, judged]
    exact settled_silent rfl rfl (passed_idle false) (passed_lawful false)
  · have judged : controlTrackPulse false s = searchFound x (s.passed false) := by
      rw [h.pulse_unflagged (scanning_motion scans), judge_approaching (h.passed false) mode phase]
      exact if_pos there.symm
    have found := h.found_playing false plays (by rcases scans with scan | scan <;> simp [scan])
    exact settled_entering (judged.trans found) rfl (idle.same rfl rfl rfl rfl rfl) (lawful.congr rfl rfl)
      (scanning_from scans) (by decide) (by decide)
  · have judged : controlTrackPulse false s = searchFound x (s.passed false) := by
      rw [h.pulse_unflagged (scanning_motion scans), judge_approaching (h.passed false) mode phase]
      exact if_pos there.symm
    have found := searchFound_stopping (s := s) (v := s.passed false) (ks := 0) (h.passed false) stops rfl
      (by rcases scans with scan | scan <;> simp [State.passed, scan, TState.running])
    rw [raising_zero (by rfl)] at found
    exact settled_stopping (judged.trans found) rfl (quiet.congr rfl rfl) (lawful.congr rfl rfl)
  · let v := (s.passed true).searching { x with mode := .counting (n - 1) }
    have judged : controlTrackPulse true s = v := by
      rw [h.pulse_flagged ((winding_iff _).2 winds), countMark_counting (h.passed true) mode phase ((winding_iff _).2 winds),
        if_neg (by omega)]
      exact judge_counting (u := v) rfl rfl
    simp only [exec, execControlTrackPulse, judged]
    exact settled_silent rfl rfl (idle.same rfl rfl rfl rfl rfl) (lawful.congr rfl rfl)
  · have found := h.found_playing true plays (by rintro e; simp [e] at winds)
    have judged : controlTrackPulse true s = (enter .play ((s.passed true).searchEnded .found)).raising s 0x00011#18 := by
      rw [h.pulse_flagged ((winding_iff _).2 winds), countMark_counting (h.passed true) mode phase ((winding_iff _).2 winds),
        if_pos (by omega), found]
      exact judge_ended (by simp [State.searchEnded])
    exact settled_entering judged rfl (idle.same rfl rfl rfl rfl rfl) (lawful.congr rfl rfl)
      (winding_from winds) (by decide) (by decide)

end Sys2Proof.Machine
end

