-- ==== Sys2Proof/Proofs/CounterRequests.lean ====
section
/-!
PROOF. RESET_COUNTER and MEMORY_STOP (R39, R41, R52).
-/

namespace Sys2Proof.Machine

variable {s : State} {x : Search} {target : Int} {n : Nat}

/-- A holder is kept where the tape is on its way (R6). -/
theorem holderReleased_threading {v : State} (threads : v.transport.state = .threading) : v.holderReleased = v := by
  have holder : released v.transport = v.transport := by
    generalize v.transport = t at threads
    obtain ⟨state, intent, holder, _⟩ := t
    subst threads
    cases holder <;> simp [released]
  rw [State.holderReleased, holder]

/-! ## RESET_COUNTER on the state -/

/-- The state with its counter set to zero and its list shifted (R39). -/
def State.rezeroed (s : State) : State :=
  { s with position := s.position.rezeroed (boundOf s.settings.standard) }

theorem resetCounter_eq (s : State) : resetCounter s =
    match s.position.search with
    | none => s.rezeroed
    | some r =>
      if (r.mode.shifted s.position.counter).inRange (boundOf s.settings.standard) then
        s.rezeroed.searching { r with mode := r.mode.shifted s.position.counter }
      else askStop (endSearch .aborted s.rezeroed) := by
  simp only [resetCounter, counterBound_eq_boundOf]
  rfl

theorem resetCounter_unsearched (unsearched : s.position.search = none) : resetCounter s = s.rezeroed := by
  rw [resetCounter_eq, unsearched]

theorem resetCounter_counting (running : s.position.search = some x) (mode : x.mode = .counting n) :
    resetCounter s = s.rezeroed := by
  have record : { x with mode := .counting n } = x := by rw [← mode]
  have same : s.rezeroed.searching x = s.rezeroed := by
    rw [State.searching, ← running]
    rfl
  simp only [resetCounter_eq, running, mode, SearchMode.shifted, SearchMode.inRange, if_true, record, same]

theorem resetCounter_shifted (running : s.position.search = some x) (mode : x.mode = .target target)
    (range : -boundOf s.settings.standard ≤ target - s.position.counter ∧
      target - s.position.counter ≤ boundOf s.settings.standard) :
    resetCounter s = s.rezeroed.searching { x with mode := .target (target - s.position.counter) } := by
  simp [resetCounter_eq, running, mode, SearchMode.shifted, SearchMode.inRange, range]

theorem resetCounter_lost (running : s.position.search = some x) (mode : x.mode = .target target)
    (range : ¬ (-boundOf s.settings.standard ≤ target - s.position.counter ∧
      target - s.position.counter ≤ boundOf s.settings.standard)) :
    resetCounter s = askStop ((s.rezeroed.searchEnded .aborted).raising s 0x00010#18) := by
  have ended := endSearch_raising (s := s) (v := s.rezeroed) (ks := 0) .aborted rfl
  rw [raising_zero (by rfl), endKinds_running (r := x) (by exact running)] at ended
  simp only [resetCounter_eq, running, mode, SearchMode.shifted, SearchMode.inRange, range, decide_false,
    Bool.false_eq_true, if_false, ended]
  rfl

/-- Where no cassette is in the deck there is nothing to reset (R39). -/
theorem rezeroed_empty (mechanism : MechanismLaw s) (empty : s.transport.state = .empty) : s.rezeroed = s := by
  obtain ⟨_, _, gone⟩ := mechanism
  obtain ⟨counter, index⟩ := gone (.inl empty)
  simp only [State.rezeroed, Position.rezeroed, index, List.map_nil, List.filter_nil]
  rw [← counter, ← index]

/-! ## The search that loses its target -/

/-- A tape that runs is brought to rest. -/
theorem resetCounter_stopping (running : s.position.search = some x) (mode : x.mode = .target target)
    (range : ¬ (-boundOf s.settings.standard ≤ target - s.position.counter ∧
      target - s.position.counter ≤ boundOf s.settings.standard))
    (runs : s.transport.state.running = true) :
    resetCounter s = (enter .stop (s.rezeroed.searchEnded .aborted)).holderReleased.raising s
      (0x00010#18 ||| enterKinds .stop s) := by
  rw [resetCounter_lost running mode range]
  exact askStop_raising (v := s.rezeroed.searchEnded .aborted) rfl runs

/-- A threading goes on (R52). -/
theorem resetCounter_threading (running : s.position.search = some x) (mode : x.mode = .target target)
    (range : ¬ (-boundOf s.settings.standard ≤ target - s.position.counter ∧
      target - s.position.counter ≤ boundOf s.settings.standard))
    (threads : s.transport.state = .threading) :
    resetCounter s = (s.rezeroed.searchEnded .aborted).raising s 0x00010#18 := by
  have kept : (s.rezeroed.searchEnded .aborted).holderReleased = s.rezeroed.searchEnded .aborted :=
    holderReleased_threading threads
  rw [resetCounter_lost running mode range, askStop, if_neg (by simp [State.searchEnded, State.rezeroed, threads, TState.running]),
    releaseAtRest_raising, kept]

/-! ## The statement -/

variable {l : Link} {r : Rank} {arg : Arg} {v : State} {ks : KindSet}

theorem exec_resetCounter (live : liveIn s.power.state l = true) (same : resetCounter s = v.raising s ks)
    (power : v.power.state = s.power.state) (idle : v.undisturbed) (lawful : WriterLaw v) :
    exec (.resetCounter l r arg) s = .next { v with ports := portsAfter s (some (l, accepted 0)) ks } :=
  acting_raising (a := .reply 0) live (congrArg accept same) power idle lawful

theorem exec_resetCounter_silent (live : liveIn s.power.state l = true) (same : resetCounter s = v)
    (ports : v.ports = s.ports) (power : v.power.state = s.power.state) (idle : v.undisturbed) (lawful : WriterLaw v) :
    exec (.resetCounter l r arg) s = .next { v with ports := portsAfter s (some (l, accepted 0)) 0 } :=
  exec_resetCounter live (by rw [same, raising_zero ports]) power idle lawful

/-- MEMORY_STOP with 0 or 1, and with any other argument (R41). -/
theorem setMemoryStop_eq (arg : Arg) (s : State) : setMemoryStop arg s =
    if arg = 0 ∨ arg = 1 then accept { s with position := { s.position with memoryStop := decide (arg = 1) } }
    else refuse .badArg s := by
  by_cases off : arg = 0
  · subst off
    rfl
  by_cases on : arg = 1
  · subst on
    rfl
  have neither : flagField arg.toNat = none := by
    have off : arg.toNat ≠ 0 := fun h => off (BitVec.eq_of_toNat_eq h)
    have on : arg.toNat ≠ 1 := fun h => on (BitVec.eq_of_toNat_eq h)
    simp only [flagField]
  rw [if_neg (not_or.2 ⟨off, on⟩), setMemoryStop, neither]

theorem exec_memoryStop {a : Answer} (live : liveIn s.power.state l = true) (same : setMemoryStop arg s = (a, v))
    (ports : v.ports = s.ports) (power : v.power = s.power) (lawful : WriterLaw v) :
    exec (.memoryStop l r arg) s = .next { v with ports := portsAfter s (some (l, a.holder)) 0 } :=
  answering_silent live same ports power lawful

/-- Settles O28: RESET_COUNTER by what search runs, and MEMORY_STOP. -/
theorem counterRequestsAct : Obligations.CounterRequestsAct := by
  refine ⟨?_, ?_, ?_⟩
  · intro l r arg x target s live idle lawful
    have idle' : s.rezeroed.undisturbed := idle.same rfl rfl rfl rfl rfl
    have lawful' : WriterLaw s.rezeroed := lawful.congr rfl rfl
    refine ⟨fun unsearched => ?_, fun running mode low high => ?_, fun running mode out runs quiet => ?_,
      fun unsearched empty mechanism => ?_⟩
    · exact exec_resetCounter_silent live (resetCounter_unsearched unsearched) rfl rfl idle' lawful'
    · exact exec_resetCounter_silent live (resetCounter_shifted running mode ⟨low, high⟩) rfl rfl
        (idle.same rfl rfl rfl rfl rfl) (lawful.congr rfl rfl)
    · have stopped := resetCounter_stopping running mode (by omega) runs
      refine exec_resetCounter live stopped ?_ (State.quiet.congr ?_ ?_ quiet).undisturbed (lawful.congr ?_ ?_) <;>
        simp [State.holderReleased, State.searchEnded, State.rezeroed]
    · exact exec_resetCounter_silent live ((resetCounter_unsearched unsearched).trans (rezeroed_empty mechanism empty))
        rfl rfl idle lawful
  · intro l r arg x n target s live idle lawful running
    have idle' : s.rezeroed.undisturbed := idle.same rfl rfl rfl rfl rfl
    have lawful' : WriterLaw s.rezeroed := lawful.congr rfl rfl
    refine ⟨fun mode => ?_, fun mode phase threads => ?_⟩
    · exact exec_resetCounter_silent live (resetCounter_counting running mode) rfl rfl idle' lawful'
    · split
      · next range =>
        exact exec_resetCounter_silent live (resetCounter_shifted running mode range) rfl rfl
          (idle.same rfl rfl rfl rfl rfl) (lawful.congr rfl rfl)
      · next range =>
        exact exec_resetCounter live (resetCounter_threading running mode range threads) rfl
          (idle.same rfl rfl rfl rfl rfl) (lawful.congr rfl rfl)
  · intro l r arg s live lawful
    split
    · next flag =>
      exact exec_memoryStop (a := .reply 0) live ((setMemoryStop_eq arg s).trans (if_pos flag)) rfl rfl
        (lawful.congr rfl rfl)
    · next other =>
      exact exec_memoryStop (a := .refuse .badArg) live ((setMemoryStop_eq arg s).trans (if_neg other)) rfl rfl lawful

end Sys2Proof.Machine
end

