-- ==== Sys2Proof/Proofs/SearchRequests.lean ====
section
/-!
PROOF. Search requests (R46 to R49): what their arguments spell, and the judging of R47 against the refusals of the statements.
-/

namespace Sys2Proof.Machine

variable {s : State} {l : Link} {rank : Rank} {arg : Arg}

/-! ## The records that the arguments spell -/

/-- The record of a SEARCH_COUNTER. -/
def counterRecord (l : Link) (rank : Rank) (arg : Arg) : Search :=
  { index := false, count := 0, mode := .target (arg.extractLsb' 0 22).toInt, direction := none, phase := .wind,
    endPlay := arg.getLsbD 22, rank := rank, link := l }

/-- The record of a SEARCH_INDEX. -/
def indexRecord (l : Link) (rank : Rank) (arg : Arg) : Search :=
  { index := true, count := arg.toInt, mode := .counting arg.toInt.natAbs, direction := none, phase := .wind,
    endPlay := true, rank := rank, link := l }

theorem counterSearch_eq (s : State) (l : Link) (rank : Rank) (arg : Arg) : counterSearch s l rank arg =
    if decide (arg.toNat < 8388608 ∧
        (arg.extractLsb' 0 22).toInt.natAbs ≤ (boundOf s.settings.standard).natAbs) = true then
      some (counterRecord l rank arg)
    else none := by
  have nonneg := boundOf_nonneg s.settings.standard
  have within : ∀ t : Int, -boundOf s.settings.standard ≤ t ∧ t ≤ boundOf s.settings.standard ↔
      t.natAbs ≤ (boundOf s.settings.standard).natAbs := by omega
  by_cases fits : arg.toNat < 8388608 <;>
    simp [counterSearch, searchCounterFields, fits, within, counterRecord]

theorem indexSearch_eq (l : Link) (rank : Rank) (arg : Arg) : indexSearch l rank arg =
    if decide (1 ≤ arg.toInt.natAbs ∧ arg.toInt.natAbs ≤ 20) = true then some (indexRecord l rank arg) else none := by
  simp [indexSearch, indexRecord]

/-! ## Mode and direction -/

theorem directionOf_sub {t c : Int} (apart : t ≠ c) :
    directionOf (t - c) = some (if c < t then .forward else .reverse) := by
  have : t - c ≠ 0 := by omega
  have : 0 < t - c ↔ c < t := by omega
  simp only [directionOf, *, if_false]
  split <;> rfl

theorem directionOf_count {n : Int} (count : n ≠ 0) : directionOf n = some (if 0 < n then .forward else .reverse) := by
  simpa using directionOf_sub (c := 0) count

theorem directionOf_zero (c : Int) : directionOf (c - c) = none := by simp [directionOf]

theorem indexMode_beyond {list : List Int} {counter n t : Int} (mode : indexMode list counter n = .target t) :
    t ≠ counter ∧ (counter < t ↔ 0 < n) := by
  have mem : t ∈ indexCandidates list counter n := by
    simp only [indexMode] at mode
    split at mode
    · next candidate =>
      cases mode
      exact List.mem_of_getElem? candidate
    · cases mode
  by_cases forward : 0 < n <;> simp [indexCandidates, forward] at mem ⊢ <;> omega

/-- The direction of a SEARCH_INDEX is the sign of its count: a target that the list gives lies beyond the counter (R49). -/
theorem planned_index {p : Position} {r : Search} (index : r.index = true) (count : r.count ≠ 0) :
    r.planned p = { r with
      mode := indexMode p.index p.counter r.count
      direction := some (if 0 < r.count then .forward else .reverse) } := by
  simp only [Search.planned, index, if_true]
  cases mode : indexMode p.index p.counter r.count with
  | counting n => simp only [directionOf_count count]
  | target t =>
    obtain ⟨apart, forward⟩ := indexMode_beyond mode
    simp only [directionOf_sub apart, forward]

theorem planned_counter {p : Position} {r : Search} {t : Int} (counter : r.index = false) (mode : r.mode = .target t) :
    r.planned p = { r with direction := directionOf (t - p.counter) } := by
  simp [Search.planned, counter, mode]

/-- Planned again from the same position a search stays as it is. -/
theorem planned_planned (p : Position) (r : Search) : (r.planned p).planned p = r.planned p := by
  cases index : r.index <;> simp [Search.planned, index]

theorem planned_counterRecord (p : Position) (l : Link) (rank : Rank) (arg : Arg) :
    (counterRecord l rank arg).planned p =
      { counterRecord l rank arg with direction := directionOf ((arg.extractLsb' 0 22).toInt - p.counter) } :=
  planned_counter rfl rfl

/-! ## The judging (R47) -/

/-- A direction as the refusals of the statements take it: forward or not, absent at the target. -/
def Direction.ofForward : Option Bool → Option Direction := Option.map fun b => if b then .forward else .reverse

theorem directionOf_ofForward (t c : Int) :
    directionOf (t - c) = Direction.ofForward (if t = c then none else some (decide (c < t))) := by
  by_cases there : t = c
  · simp [there, directionOf, Direction.ofForward]
  · simp [directionOf_sub there, there, Direction.ofForward]

/-- What an accepted search request was found to meet (R47). -/
structure State.SearchAccepted (s : State) (rank : Rank) (forward : Option Bool) : Prop where
  state : s.transport.state ∈ [TState.parked, .stop, .play, .still, .cue, .review, .fwind, .rwind]
  holder : holderTurnsAway s.transport.holder rank .play = false
  faults : s.protection.faults.reelStall = false ∧ s.protection.faults.windOverload = false ∧
    s.protection.faults.drumFault = false
  ahead : forward = some true → s.pins.tapeEnd = false
  behind : forward = some false → s.pins.tapeStart = false

theorem holderRefuses_eq (h : Holder) (rank : Rank) : holderRefuses h rank false = holderTurnsAway h rank .play := by
  cases h <;> cases rank <;> rfl

theorem lockedOrOff_eq (s : State) (rank : Rank) : lockedOrOff s rank =
    if s.engine.lock then some .locked else if s.power.state ≠ .on ∧ rank = .automatic then some .notOn else none := by
  simp [lockedOrOff, State.isOn]

/-- The direction's sensor, as the model and as the statements read it. -/
theorem edgeToward_ofForward (pins : Pins) (forward : Option Bool) :
    ((Direction.ofForward forward).isSome && pins.edgeToward (windOf (Direction.ofForward forward))) = true ↔
      forward = some true ∧ pins.tapeEnd = true ∨ forward = some false ∧ pins.tapeStart = true := by
  rcases forward with _ | _ | _ <;> simp [Direction.ofForward, windOf, Pins.edgeToward]

/-- The judging of R47 beside the refusals of the statements: the same checks in the same order. -/
theorem judgeSearch_agrees {argument : Bool} {forward : Option Bool} {r : Search}
    (planned : argument = true → (r.planned s.position).direction = Direction.ofForward forward) :
    match searchRefusal s rank argument forward with
    | some code => ∃ why, judgeSearch s rank (if argument = true then some r else none) = .error why ∧ why.code = code
    | none => judgeSearch s rank (if argument = true then some r else none) = .ok (r.planned s.position) := by
  simp only [judgeSearch, searchRefusal, lockedOrOff_eq, holderRefuses_eq]
  by_cases locked : s.engine.lock = true
  · simp [locked, Refuse.code]
  by_cases off : s.power.state ≠ .on ∧ rank = .automatic
  · simp [locked, off, Refuse.code]
  by_cases turned : holderTurnsAway s.transport.holder rank .play = true
  · by_cases fault : s.transport.state = .fault <;> simp [locked, off, fault, turned, Refuse.code]
  cases argument
  · by_cases fault : s.transport.state = .fault <;> simp [locked, off, fault, turned, Refuse.code]
  have edge := edgeToward_ofForward s.pins forward
  rw [← planned rfl] at edge
  by_cases faulty : (s.protection.faults.reelStall || s.protection.faults.windOverload ||
      s.protection.faults.drumFault) = true
  · cases state : s.transport.state <;> simp [locked, off, turned, searchState, faulty, Refuse.code]
  by_cases tape : forward = some true ∧ s.pins.tapeEnd = true ∨ forward = some false ∧ s.pins.tapeStart = true
  · cases state : s.transport.state <;> simp [locked, off, turned, searchState, faulty, edge.2 tape, tape, Refuse.code]
  · cases state : s.transport.state <;> simp [locked, off, turned, searchState, faulty, mt edge.1 tape, tape, Refuse.code]

theorem searchAccepted_of_none {argument : Bool} {forward : Option Bool}
    (accepted : searchRefusal s rank argument forward = none) : argument = true ∧ s.SearchAccepted rank forward := by
  simp only [searchRefusal] at accepted
  repeat' split at accepted
  all_goals cases accepted
  next _ _ fault turned given empty busy recording faulty edge =>
    simp only [Bool.not_eq_true, Bool.or_eq_false_iff] at turned faulty
    refine ⟨by simpa using given, ⟨?_, turned, ⟨faulty.1.1, faulty.1.2, faulty.2⟩, ?_, ?_⟩⟩
    · cases state : s.transport.state <;> simp_all
    · rintro rfl
      simpa using edge
    · rintro rfl
      simpa using edge

end Sys2Proof.Machine
end

