-- ==== Sys2Proof/Proofs/SearchBeginnings.lean ====
section
/-!
PROOF. How a search begins (R48, R49): at its target, or with the move of its phase.
-/

namespace Sys2Proof.Machine

variable {s v : State} {ks : KindSet} {x r : Search}

/-! ## The move of a beginning search -/

/-- The transport's own faults and sensors let a search wind and scan in a direction. -/
def State.lets (s : State) (forward : Bool) : Prop :=
  s.protection.faults.reelStall = false ∧ s.protection.faults.windOverload = false ∧
  s.protection.faults.drumFault = false ∧ (if forward then s.pins.tapeEnd else s.pins.tapeStart) = false

theorem State.lets.same {forward : Bool} (free : s.lets forward) (protection : v.protection = s.protection)
    (pins : v.pins = s.pins) : v.lets forward := by rwa [State.lets, protection, pins]

theorem searchMove_wind {forward : Bool} (free : s.lets forward) :
    searchMove (if forward then .fwind else .rwind) s = movedTo (if forward then .fwind else .rwind) s := by
  obtain ⟨stall, overload, drum, edge⟩ := free
  cases forward <;> simp_all [searchMove, movedTo, Faults.blocks, Pins.edgeToward]

theorem searchMove_scan {forward : Bool} (free : s.lets forward) :
    searchMove (if forward then .cue else .review) s = movedTo (if forward then .cue else .review) s := by
  obtain ⟨stall, overload, drum, edge⟩ := free
  cases forward <;> simp_all [searchMove, movedTo, Faults.blocks, Pins.edgeToward]

/-- A search away from its target begins as the statements have it. -/
theorem beginSearch_eq {forward : Bool} (planned : r.planned s.position = x)
    (direction : x.direction = some (if forward then .forward else .reverse))
    (apart : x.mode ≠ .target s.position.counter) (free : s.lets forward) : beginSearch r s = searchBegun x s := by
  have wind : windOf x.direction = if forward then .fwind else .rwind := by cases forward <;> simp [windOf, direction]
  have scan : scanOf x.direction = if forward then .cue else .review := by cases forward <;> simp [scanOf, direction]
  have ahead : (x.direction == some .forward) = forward := by cases forward <;> simp [direction]
  have free' : ∀ y : Search, (setSearch (some y) s).lets forward := fun y => free.same rfl rfl
  simp only [beginSearch, planned, searchBegun, wind, scan, ahead]
  cases mode : x.mode with
  | counting n => exact searchMove_wind (free' _)
  | target t =>
    have apart : t ≠ s.position.counter := fun h => apart (by rw [mode, h])
    have same : distance t s.position.counter ≤ s.approachDistance ↔
        (t - s.position.counter).natAbs ≤ 10 * framesOf s.settings.standard := by
      rw [framesOf_eq_frames]
      rfl
    simp only [apart, if_false]
    by_cases near : (t - s.position.counter).natAbs ≤ 10 * framesOf s.settings.standard
    · rw [if_pos near, if_pos (same.2 near)]
      exact searchMove_scan (free' _)
    · rw [if_neg near, if_neg (mt same.1 near)]
      exact searchMove_wind (free' _)

/-- The states that a search moves the tape in. -/
def TState.searches (t : TState) : Prop := t = .fwind ∨ t = .rwind ∨ t = .cue ∨ t = .review

theorem TState.searches.facts {t : TState} (searches : t.searches) :
    t.motion ≠ .atRest ∧ t ≠ .record ∧ t.running = true := by
  rcases searches with rfl | rfl | rfl | rfl <;> decide

/-- What a beginning search comes to: a wind or a scan with the search in its phase. -/
theorem searchBegun_shape (x : Search) (s : State) :
    ∃ t phase, t.searches ∧ searchBegun x s = movedTo t (s.searching { x with phase := phase }) := by
  have wind : ∀ forward : Bool, (if forward = true then TState.fwind else .rwind).searches := by
    intro forward
    cases forward <;> simp [TState.searches]
  have scan : ∀ forward : Bool, (if forward = true then TState.cue else .review).searches := by
    intro forward
    cases forward <;> simp [TState.searches]
  simp only [searchBegun]
  split
  · exact ⟨_, .wind, wind _, rfl⟩
  · split
    · exact ⟨_, .approach, scan _, rfl⟩
    · exact ⟨_, .wind, wind _, rfl⟩

/-! ## Moving unless the tape is there already -/

@[simp] theorem movedTo_state (t : TState) (s : State) : (movedTo t s).transport.state = t := by
  simp only [movedTo]
  split
  · assumption
  · simp [Transport.entered]

@[simp] theorem movedTo_keeps (t : TState) (s : State) :
    (movedTo t s).power = s.power ∧ (movedTo t s).store = s.store ∧ (movedTo t s).engine = s.engine := by
  simp only [movedTo]
  split <;> simp

theorem movedTo_ports {t : TState} (moves : t.motion ≠ .atRest) (power : v.power.state = s.power.state)
    (ports : v.ports = raisedPorts s ks) :
    (movedTo t v).ports = raisedPorts s (ks ||| if v.transport.state = t then 0 else 0x00001#18) := by
  simp only [movedTo]
  split
  · simpa using ports
  · next other => rw [enter_ports t power ports, enterKinds_moving other moves]

theorem movedTo_undisturbed {t : TState} (idle : v.undisturbed) (from_ : v.transport.state ≠ .inserting)
    (moves : t.motion ≠ .atRest) (plays : t ≠ .record) : (movedTo t v).undisturbed := by
  simp only [movedTo]
  split
  · exact idle
  · exact undisturbed_enter idle from_ moves plays

/-- The holder is kept away from STOP, PARKED and EMPTY (R6). -/
theorem releaseAtRest_away (away : v.transport.state ∉ [TState.stop, .parked, .empty]) : releaseAtRest v = v := by
  have held : v.transport.releases = false := by simp_all [Transport.releases]
  simp [releaseAtRest, held]

theorem releaseAtRest_running (runs : v.transport.state.running = true) : releaseAtRest v = v := by
  refine releaseAtRest_away ?_
  revert runs
  cases v.transport.state <;> simp [TState.running]

theorem raising_of_ports (ports : v.ports = raisedPorts s ks) : v.raising s ks = v := by rw [State.raising, ← ports]

/-- A search begun in a state that the tape may leave, up to the kinds raised. -/
theorem searchBegun_raising (power : v.power.state = s.power.state) (ports : v.ports = raisedPorts s ks) :
    releaseAtRest (searchBegun x v) =
      (searchBegun x v).raising s (ks ||| if (searchBegun x v).transport.state = v.transport.state then 0 else 0x00001#18) := by
  obtain ⟨t, phase, searches, shape⟩ := searchBegun_shape x v
  obtain ⟨moves, _, runs⟩ := searches.facts
  have moved := movedTo_ports (v := v.searching { x with phase := phase }) moves power ports
  rw [shape, releaseAtRest_running (by simpa using runs), raising_of_ports]
  rw [moved, movedTo_state]
  simp only [State.searching, eq_comm]

theorem searchBegun_undisturbed (idle : v.undisturbed) (from_ : v.transport.state ≠ .inserting) :
    (searchBegun x v).undisturbed := by
  obtain ⟨t, phase, searches, shape⟩ := searchBegun_shape x v
  obtain ⟨moves, plays, _⟩ := searches.facts
  rw [shape]
  exact movedTo_undisturbed (idle.same rfl rfl rfl rfl rfl) from_ moves plays

@[simp] theorem searchBegun_keeps (x : Search) (v : State) :
    (searchBegun x v).power = v.power ∧ (searchBegun x v).store = v.store ∧ (searchBegun x v).engine = v.engine := by
  obtain ⟨t, phase, _, shape⟩ := searchBegun_shape x v
  rw [shape]
  simp [State.searching]

/-! ## At the target -/

/-- A state whose search has ended FOUND where the counter stands. -/
def State.foundBy (x : Search) (s : State) : State :=
  { s with position := { s.position with
      search := none, lastEnding := some ⟨.counter, .found, s.position.counter, some x.link⟩ } }

theorem searching_searchEnded (counter : x.index = false) : (s.searching x).searchEnded .found = s.foundBy x := by
  simp [State.searching, State.searchEnded, endedSearch, State.foundBy, counter]

theorem foundBy_unsearched (unsearched : s.position.search = none) : s.foundBy x =
    { s with position := { s.position with
        lastEnding := some ⟨.counter, .found, s.position.counter, some x.link⟩ } } := by
  simp only [State.foundBy, ← unsearched]

theorem beginSearch_there (planned : r.planned s.position = x) (there : x.mode = .target s.position.counter) :
    beginSearch r s = searchFound x (s.searching x) := by
  simp only [beginSearch, planned, there, if_true]
  rfl

theorem holderReleased_twice (v : State) : v.holderReleased.holderReleased = v.holderReleased := by
  have same : released (released v.transport) = released v.transport := by
    generalize v.transport = t
    obtain ⟨state, intent, holder, _⟩ := t
    by_cases rests : intent = none ∧ (state = .stop ∨ state = .parked ∨ state = .empty) <;>
      cases holder <;> simp [released, rests]
  simp only [State.holderReleased, same]

/-- In STOP with no intent a link's holder is released (R6). -/
theorem released_stop {t : Transport} (stop : t.state = .stop) (unintended : t.intent = none) (link : t.holder ≠ .timer) :
    released t = { t with holder := .none } := by
  cases holder : t.holder <;> simp_all [released]

/-- Found at once with end action STOP, in STOP. -/
theorem found_resting (power : v.power.state = s.power.state) (counter : x.index = false) (stops : x.endPlay = false)
    (rests : v.transport.state.running = false) :
    releaseAtRest (searchFound x ((v.searching x).raising s ks)) =
      (v.foundBy x).holderReleased.raising s (ks ||| 0x00010#18) := by
  rw [searchFound_resting (v := v.searching x) rfl stops power rests, releaseAtRest_raising, holderReleased_twice,
    searching_searchEnded counter]

/-- From a running state. -/
theorem found_stopping (power : v.power.state = s.power.state) (counter : x.index = false) (stops : x.endPlay = false)
    (runs : v.transport.state.running = true) :
    releaseAtRest (searchFound x ((v.searching x).raising s ks)) =
      (enter .stop (v.foundBy x)).holderReleased.raising s (ks ||| 0x00010#18 ||| enterKinds .stop v) := by
  rw [searchFound_stopping (v := v.searching x) rfl stops power runs, releaseAtRest_raising, holderReleased_twice,
    searching_searchEnded counter]
  rfl

/-- Found at once with end action PLAY. -/
theorem found_playing (power : v.power.state = s.power.state) (counter : x.index = false) (plays : x.endPlay = true)
    (holds : Machine.intentHolds v .play = true) :
    releaseAtRest (searchFound x ((v.searching x).raising s ks)) = (movedTo .play (v.foundBy x)).raising s
      (ks ||| 0x00010#18 ||| if v.transport.state = .play then 0 else 0x00001#18) := by
  rw [searchFound_moving (v := v.searching x) rfl plays power holds, searching_searchEnded counter,
    releaseAtRest_running (by simp [TState.running])]
  rfl

end Sys2Proof.Machine
end

