-- ==== Sys2Proof/Proofs/SearchesBegin.lean ====
section
/-!
PROOF. Search requests from a link, refused or begun (R47 to R51), for either kind of search at once.
-/

namespace Sys2Proof.Machine

variable {s : State} {l : Link} {r : Rank} {x y : Search} {argument : Bool} {forward : Option Bool}

/-! ## What acceptance brings -/

/-- With main power ON, no search running and no switch-off pending, acceptance sets the holder alone. -/
theorem acceptFrom_heldBy (power : s.power.state = .on) (pending : s.power.pendingOff = none)
    (unsearched : s.position.search = none) (holder : s.transport.holder ≠ .timer) :
    acceptFrom l (effectiveRank s l r) true s = heldBy l r s := by
  have kept : s.modPower Power.userOffCancelled = s := by simp [State.modPower, Power.userOffCancelled, pending]
  simp only [acceptFrom, power, reduceCtorEq, if_false, kept, endSearch, unsearched, holder, ne_eq, not_false_iff,
    and_self, if_true, heldBy, setHolder, State.modTransport]
  cases effectiveRank s l r <;> rfl

theorem State.SearchAccepted.holder_ne_timer {rank : Rank} (h : s.SearchAccepted rank forward) :
    s.transport.holder ≠ .timer := by
  intro timer
  have := h.holder
  cases rank <;> simp_all [holderTurnsAway]

theorem State.SearchAccepted.from_ {rank : Rank} (h : s.SearchAccepted rank forward) :
    s.transport.state ≠ .inserting := by
  intro inserting
  have := h.state
  simp [inserting] at this

theorem State.SearchAccepted.lets {rank : Rank} {ahead : Bool} (h : s.SearchAccepted rank (some ahead)) :
    s.lets ahead := by
  obtain ⟨stall, overload, drum⟩ := h.faults
  refine ⟨stall, overload, drum, ?_⟩
  cases ahead
  · exact h.behind rfl
  · exact h.ahead rfl

/-- PLAY is hindered by the tape's end alone. -/
theorem State.SearchAccepted.intentHolds {rank : Rank} (h : s.SearchAccepted rank forward)
    (tapeEnd : s.pins.tapeEnd = false) : intentHolds s .play = true := by
  obtain ⟨stall, overload, drum⟩ := h.faults
  simp [Machine.intentHolds, hindrance, Intent.target, Faults.blocks, Pins.edgeToward, stall, drum, tapeEnd]

/-- An accepted request finds the tape at rest in PARKED or STOP, or running. -/
theorem State.SearchAccepted.running_iff {rank : Rank} (h : s.SearchAccepted rank forward)
    (unparked : s.transport.state ≠ .parked) : s.transport.state.running = false ↔ s.transport.state = .stop := by
  have state := h.state
  revert state unparked
  cases s.transport.state <;> simp [TState.running]

/-- The requester's hold keeps a busy transport busy: a user's is not let go to an automatic request. -/
theorem heldBy_busy (h : s.SearchAccepted (effectiveRank s l r) forward) (busy : s.transportBusy = true) :
    (heldBy l r s).transportBusy = true := by
  have turned := h.holder
  cases holder : s.transport.holder <;> simp [State.transportBusy, holder] at busy
  cases rank : effectiveRank s l r <;> simp_all [holderTurnsAway, State.transportBusy, heldBy]

theorem heldBy_undisturbed (h : s.SearchAccepted (effectiveRank s l r) forward) (idle : s.undisturbed) :
    (heldBy l r s).undisturbed :=
  State.undisturbed.moved (s := s) rfl rfl rfl (heldBy_busy h) (fun busy => busy) (.inl rfl) idle

theorem setIntent_undisturbed (i : Option Intent) (idle : s.undisturbed) : (setIntent i s).undisturbed :=
  State.undisturbed.congr (s := s) rfl rfl rfl rfl rfl rfl idle

/-! ## A request judged -/

section
variable {body : Rank → State → Answered}
  (request : body (effectiveRank s l r) s =
    requestSearch l (effectiveRank s l r) (if argument = true then some y else none) s)
  (planned : argument = true → (y.planned s.position).direction = Direction.ofForward forward)
include request planned

theorem search_refused {code : Nat} (live : liveIn s.power.state l = true) (idle : s.undisturbed) (lawful : WriterLaw s)
    (refused : searchRefusal s (effectiveRank s l r) argument forward = some code) :
    acting l r body s = .next { s with ports := portsAfter s (some (l, refusedWith code)) 0 } := by
  have judged := judgeSearch_agrees (rank := effectiveRank s l r) (argument := argument) planned
  rw [refused] at judged
  obtain ⟨why, judged, rfl⟩ := judged
  refine acting_silent (a := .refuse why) live ?_ rfl rfl idle lawful
  rw [request, requestSearch, judged]
  rfl

/-- An accepted request, less its effect. -/
theorem search_accepted (power : s.power.state = .on) (pending : s.power.pendingOff = none)
    (unsearched : s.position.search = none)
    (accepted : searchRefusal s (effectiveRank s l r) argument forward = none) :
    body (effectiveRank s l r) s = accept (releaseAtRest
      (if s.transport.state = .parked then
        thread .stop ((heldBy l r s).searching { y.planned s.position with phase := .thread })
      else beginSearch (y.planned s.position) (heldBy l r s))) := by
  have judged := judgeSearch_agrees (rank := effectiveRank s l r) (argument := argument) planned
  rw [accepted] at judged
  obtain ⟨_, h⟩ := searchAccepted_of_none accepted
  rw [request, requestSearch, judged]
  simp only [acceptFrom_heldBy power pending unsearched h.holder_ne_timer]
  rfl

/-- In PARKED an accepted request waits while the tape is threaded (R51). -/
theorem search_threading (power : s.power.state = .on) (idle : s.undisturbed) (lawful : WriterLaw s)
    (unsearched : s.position.search = none)
    (accepted_ : searchRefusal s (effectiveRank s l r) argument forward = none) (parked : s.transport.state = .parked)
    (record : { y.planned s.position with phase := .thread } = x) :
    acting l r body s = .next
      { enter .threading (setIntent (some .stop) ((heldBy l r s).searching x)) with
        ports := portsAfter s (some (l, accepted 0)) (enterKinds .threading s) } := by
  obtain ⟨_, h⟩ := searchAccepted_of_none accepted_
  have answered := search_accepted request planned power idle.2 unsearched accepted_
  rw [if_pos parked, record, thread, releaseAtRest_away (by simp [Transport.entered])] at answered
  have held : (setIntent (some .stop) ((heldBy l r s).searching x)).undisturbed :=
    setIntent_undisturbed _ ((heldBy_undisturbed h idle).same rfl rfl rfl rfl rfl)
  have raised := enter_raising (s := s) (v := setIntent (some .stop) ((heldBy l r s).searching x)) (ks := 0) .threading rfl
  rw [raising_zero (by rfl), noKinds_or] at raised
  refine acting_raising (a := .reply 0) (ks := enterKinds .threading s) (by cases l <;> simp [power, liveIn])
    (answered.trans ?_) ?_ (undisturbed_enter_away held h.from_ rfl (by decide)) (lawful_enter _ (lawful.congr rfl rfl))
  · exact congrArg accept raised
  · simp [setIntent, State.searching, heldBy]

/-- Elsewhere it begins at once (R48, R49). -/
theorem search_begun (power : s.power.state = .on) (idle : s.undisturbed) (lawful : WriterLaw s)
    (unsearched : s.position.search = none)
    (accepted_ : searchRefusal s (effectiveRank s l r) argument forward = none) (unparked : s.transport.state ≠ .parked)
    (begins : beginSearch (y.planned s.position) (heldBy l r s) = searchBegun x (heldBy l r s)) :
    acting l r body s = .next
      { searchBegun x (heldBy l r s) with
        ports := portsAfter s (some (l, accepted 0)) (searchKinds s (searchBegun x (heldBy l r s))) } := by
  obtain ⟨_, h⟩ := searchAccepted_of_none accepted_
  have answered := search_accepted request planned power idle.2 unsearched accepted_
  rw [if_neg unparked, begins, searchBegun_raising (s := s) (v := heldBy l r s) (ks := 0) rfl (raisedPorts_zero s).symm,
    noKinds_or] at answered
  exact acting_raising (a := .reply 0) (by cases l <;> simp [power, liveIn]) answered (by simp; rfl)
    (searchBegun_undisturbed (heldBy_undisturbed h idle) h.from_) (lawful.congr (by simp; rfl) (by simp; rfl))

variable (power : s.power.state = .on) (idle : s.undisturbed) (lawful : WriterLaw s)
  (unsearched : s.position.search = none)
  (accepted_ : searchRefusal s (effectiveRank s l r) argument forward = none) (unparked : s.transport.state ≠ .parked)
  (record : y.planned s.position = x) (counter : x.index = false) (there : x.mode = .target s.position.counter)
include power idle unsearched accepted_ unparked record there

/-- At its target a counter search is found at once (R48). -/
theorem search_there : body (effectiveRank s l r) s =
    accept (releaseAtRest (searchFound x (((heldBy l r s).searching x).raising s 0))) := by
  have answered := search_accepted request planned power idle.2 unsearched accepted_
  have again : (y.planned s.position).planned (heldBy l r s).position = x := (planned_planned _ _).trans record
  rwa [if_neg unparked, beginSearch_there again there,
    ← raising_zero (s := s) (v := (heldBy l r s).searching x) rfl] at answered

include counter lawful

/-- It plays on. -/
theorem search_found_playing (plays : x.endPlay = true) (tapeEnd : s.pins.tapeEnd = false) :
    acting l r body s = .next
      { movedTo .play ((heldBy l r s).foundBy x) with
        ports := portsAfter s (some (l, accepted 0))
          (0x00010#18 ||| searchKinds s (movedTo .play ((heldBy l r s).foundBy x))) } := by
  obtain ⟨_, h⟩ := searchAccepted_of_none accepted_
  have answered := search_there request planned power idle unsearched accepted_ unparked record there
  rw [found_playing (s := s) (v := heldBy l r s) rfl counter plays (h.intentHolds tapeEnd), noKinds_or] at answered
  have kinds : searchKinds s (movedTo .play ((heldBy l r s).foundBy x)) =
      if (heldBy l r s).transport.state = .play then 0 else 0x00001#18 := by
    rw [searchKinds, movedTo_state]
    exact if_congr eq_comm rfl rfl
  rw [kinds]
  have held : ((heldBy l r s).foundBy x).undisturbed := (heldBy_undisturbed h idle).same rfl rfl rfl rfl rfl
  exact acting_raising (a := .reply 0) (by cases l <;> simp [power, liveIn]) answered (by simp; rfl)
    (movedTo_undisturbed held h.from_ (by decide) (by decide)) (lawful.congr (by simp; rfl) (by simp; rfl))

/-- It stops, or stays in STOP, and its requester's hold ends (R6). -/
theorem search_found_stopping (stops : x.endPlay = false) (quiet : s.quiet) (unintended : s.transport.intent = none) :
    acting l r body s = .next
      (let u := if s.transport.state = .stop then (heldBy l r s).foundBy x else enter .stop ((heldBy l r s).foundBy x)
      { u with transport := { u.transport with holder := .none }
               ports := portsAfter s (some (l, accepted 0))
                 (0x00010#18 ||| if s.transport.state = .stop then 0 else enterKinds .stop s) }) := by
  obtain ⟨_, h⟩ := searchAccepted_of_none accepted_
  have answered := search_there request planned power idle unsearched accepted_ unparked record there
  have live : liveIn s.power.state l = true := by cases l <;> simp [power, liveIn]
  have link : (heldBy l r s).transport.holder ≠ .timer := by
    simp only [heldBy]
    split <;> simp
  by_cases stop : s.transport.state = .stop
  · have freed : released ((heldBy l r s).foundBy x).transport = { (heldBy l r s).transport with holder := .none } :=
      released_stop stop unintended link
    rw [found_resting (s := s) (v := heldBy l r s) rfl counter stops ((h.running_iff unparked).2 stop), noKinds_or] at answered
    simp only [stop, if_true]
    rw [or_noKinds]
    rw [State.holderReleased, freed] at answered
    exact acting_raising (a := .reply 0) live answered (by rfl) (State.quiet.congr (s := s) (by rfl) (by rfl) quiet).undisturbed
      (lawful.congr rfl rfl)
  · have runs : s.transport.state.running = true := by simpa using mt (h.running_iff unparked).1 stop
    have freed : released (enter .stop ((heldBy l r s).foundBy x)).transport =
        { (enter .stop ((heldBy l r s).foundBy x)).transport with holder := .none } := by
      refine released_stop (by simp [Transport.entered]) ?_ (by simpa [Transport.entered, State.foundBy] using link)
      rw [enter_transport]
      exact congrArg (intentAfter .stop) unintended
    rw [found_stopping (s := s) (v := heldBy l r s) rfl counter stops runs, noKinds_or] at answered
    simp only [stop, if_false]
    rw [State.holderReleased, freed] at answered
    exact acting_raising (a := .reply 0) live answered (by simp; rfl)
      (State.quiet.congr (s := s) (by simp; rfl) (by simp; rfl) quiet).undisturbed (lawful.congr (by simp; rfl) (by simp; rfl))

end

end Sys2Proof.Machine
end

