-- ==== Sys2Proof/Proofs/SearchesThreaded.lean ====
section
/-!
PROOF. A search that waits for the tape to be threaded (R51), and the statement on the beginnings of searches.
-/

namespace Sys2Proof.Machine

variable {s : State} {x y : Search} {t : Int}

/-! ## The threaded switch with a search waiting -/

/-- A threading attempt in progress, a search waiting for it, and nothing in the tape's way (R20, R51). -/
structure State.Waiting (s : State) (x : Search) : Prop where
  power : s.power.state ≠ .hold
  state : s.transport.state = .threading
  motion : s.transport.motion = .threadFirst ∨ s.transport.motion = .threadSecond
  running : s.position.search = some x
  phase : x.phase = .thread
  free : s.unhindered

theorem State.unhindered.lets (free : s.unhindered) (ahead : Bool) : s.lets ahead := by
  obtain ⟨faults, tapeEnd, tapeStart⟩ := free
  cases ahead <;> simp [State.lets, faults, tapeEnd, tapeStart]

theorem State.Waiting.closes (h : s.Waiting x) :
    threadedCloses s = releaseAtRest (searchThreaded (carryOutThreaded s)) := by
  have attempt : s.transport.attempting = true := by
    rcases h.motion with motion | motion <;> simp [Transport.attempting, h.state, motion]
  rw [threadedCloses, if_pos ⟨by simpa [State.inHold] using h.power, attempt⟩]

/-- With intent STOP the search begins from STOP. -/
theorem State.Waiting.closes_stop (h : s.Waiting x) (intent : s.transport.intent = some .stop) :
    threadedCloses s = releaseAtRest (beginSearch x (enter .stop s)) := by
  have carried : carryOutThreaded s = enter .stop s := by simp only [carryOutThreaded, intent]
  have rests : (enter .stop s).transport.state = .stop := by simp [Transport.entered]
  have waits : (enter .stop s).position.search = some x := by simpa using h.running
  rw [h.closes, carried]
  simp only [searchThreaded, waits, h.phase, rests, if_true]

/-- With intent PLAY the search ends and the tape plays. -/
theorem State.Waiting.closes_play (h : s.Waiting x) (intent : s.transport.intent = some .play) :
    threadedCloses s = releaseAtRest (endSearch .aborted (enter .play s)) := by
  have carried : carryOutThreaded s = enter .play s := by
    simp only [carryOutThreaded, intent, h.free.intentHolds, if_true]
    rfl
  have rests : (enter .play s).transport.state = .play := by simp [Transport.entered]
  have waits : (enter .play s).position.search = some x := by simpa using h.running
  rw [h.closes, carried]
  simp only [searchThreaded, waits, h.phase, rests, reduceCtorEq, if_true, if_false]

theorem enter_own (new : TState) (s : State) : enter new s = (enter new s).raising s (enterKinds new s) := by
  have entered := enter_raising (s := s) (v := s) (ks := 0) new rfl
  rwa [raising_zero (by rfl), noKinds_or] at entered

/-- Leaving THREADING raises TRANSPORT; a further move raises nothing new. -/
theorem enterKinds_stop_or (threading : s.transport.state = .threading) :
    enterKinds .stop s ||| 0x00001#18 = enterKinds .stop s := by
  by_cases current : s.gauge.estimate = .current <;> simp [enterKinds, threading, current, TState.motion]

theorem State.Waiting.begun (h : s.Waiting x) (idle : s.undisturbed) (lawful : WriterLaw s)
    (intent : s.transport.intent = some .stop) (begins : beginSearch x (enter .stop s) = searchBegun y (enter .stop s)) :
    exec .threadedSwitchCloses s = .next
      { searchBegun y (enter .stop s) with ports := portsAfter s none (enterKinds .stop s) } := by
  obtain ⟨move, phase, searches, shape⟩ := searchBegun_shape y (enter .stop s)
  obtain ⟨moves, plays, runs⟩ := searches.facts
  have rest : (enter .stop s).transport.state = .stop := by simp [Transport.entered]
  have away : move ≠ .stop := by rintro rfl; simp [TState.running] at runs
  have moved : searchBegun y (enter .stop s) = enter move ((enter .stop s).searching { y with phase := phase }) := by
    rw [shape, movedTo, if_neg (by exact rest.trans_ne away.symm)]
  have state : (searchBegun y (enter .stop s)).transport.state = move := by rw [shape, movedTo_state]
  have ports : (enter .stop s).ports = raisedPorts s (enterKinds .stop s) := congrArg State.ports (enter_own .stop s)
  have closed : threadedCloses s = (searchBegun y (enter .stop s)).raising s (enterKinds .stop s) := by
    rw [h.closes_stop intent, begins, searchBegun_raising (s := s) (v := enter .stop s) (by simp) ports, state, rest,
      if_neg away, enterKinds_stop_or h.state]
  refine settled_raising closed (by simp) ?_ (lawful.congr (by simp) (by simp))
  rw [moved]
  refine State.undisturbed.moved (s := s) (by simp [State.searching]) (by simp [State.searching])
    (by simp [State.now, State.searching]) ?_ ?_ (.inr ⟨by simp [h.state], ?_, ?_⟩) idle
  · simp [State.transportBusy, State.searching, Transport.entered]
  · simp [State.tunerBusy, State.searching]
  · simp only [enter_transport, Transport.entered]
    revert moves
    cases move <;> simp [TState.motion, TState.resting]
  · simp [Transport.entered, plays]

/-- A search that waits with its target at the counter is found at once. -/
theorem State.Waiting.found (h : s.Waiting x) (lawful : WriterLaw s) (quiet : s.quiet)
    (intent : s.transport.intent = some .stop) (counter : x.index = false)
    (there : x.mode = .target s.position.counter) (stops : x.endPlay = false) :
    exec .threadedSwitchCloses s = .next
      { ((enter .stop s).foundBy x).holderReleased with
        ports := portsAfter s none (0x00010#18 ||| enterKinds .stop s) } := by
  have rest : (enter .stop s).transport.state = .stop := by simp [Transport.entered]
  have same : (enter .stop s).position.counter = s.position.counter := congrArg Prod.snd (enter_tape .stop s)
  let y : Search := { x with direction := none }
  have planned : x.planned (enter .stop s).position = y := by
    rw [planned_counter counter there, same, directionOf_zero]
  have own : (enter .stop s).searching y = ((enter .stop s).searching y).raising s (enterKinds .stop s) :=
    congrArg (State.searching y) (enter_own .stop s)
  have closed : threadedCloses s = ((enter .stop s).foundBy x).holderReleased.raising s
      (0x00010#18 ||| enterKinds .stop s) := by
    rw [h.closes_stop intent, beginSearch_there planned (by rw [same]; exact there), own,
      found_resting (x := y) (by simp) counter stops (by rw [rest]; rfl), BitVec.or_comm]
    rfl
  refine settled_raising closed ?_ (State.quiet.congr (s := s) ?_ ?_ quiet).undisturbed (lawful.congr ?_ ?_) <;>
    simp [State.holderReleased, State.foundBy]

/-- A search that waits with an intent to PLAY ends as the tape plays. -/
theorem State.Waiting.aborted (h : s.Waiting x) (idle : s.undisturbed) (lawful : WriterLaw s)
    (intent : s.transport.intent = some .play) :
    exec .threadedSwitchCloses s = .next
      { (enter .play s).searchEnded .aborted with
        ports := portsAfter s none (0x00010#18 ||| enterKinds .play s) } := by
  have waits : (enter .play s).position.search = some x := by simpa using h.running
  have ended := endSearch_raising (s := s) (v := enter .play s) (ks := enterKinds .play s) .aborted (by simp)
  rw [endKinds_running waits, ← enter_own, BitVec.or_comm] at ended
  have away : ((enter .play s).searchEnded .aborted).transport.state = .play := by
    simp [State.searchEnded, Transport.entered]
  have closed : threadedCloses s = ((enter .play s).searchEnded .aborted).raising s
      (0x00010#18 ||| enterKinds .play s) := by
    rw [h.closes_play intent, ended, releaseAtRest_running (by rw [(raising_keeps _ _ _).1, away]; rfl)]
  have idle' : (enter .play s).undisturbed := undisturbed_enter idle (by simp [h.state]) (by decide) (by decide)
  exact settled_raising closed (by simp [State.searchEnded]) (idle'.same rfl rfl rfl rfl rfl)
    (lawful.congr (by simp [State.searchEnded]) (by simp [State.searchEnded]))

end Sys2Proof.Machine
end

