-- ==== Sys2Proof/Proofs/SearchStatement.lean ====
section
/-!
PROOF. The statement on the beginnings of searches (R46 to R53), part by part.
-/

namespace Sys2Proof.Machine

variable {s : State} {l : Link} {r : Rank} {arg : Arg} {x : Search} {t : Int}

/-! ## The two requests -/

/-- The argument of a SEARCH_COUNTER is within range, and that of a SEARCH_INDEX. -/
def counterFits (s : State) (arg : Arg) : Bool :=
  decide (arg.toNat < 8388608 ∧ (arg.extractLsb' 0 22).toInt.natAbs ≤ (boundOf s.settings.standard).natAbs)

def indexFits (arg : Arg) : Bool := decide (1 ≤ arg.toInt.natAbs ∧ arg.toInt.natAbs ≤ 20)

/-- The direction of a SEARCH_COUNTER: forward or not, absent at its target. -/
def counterAhead (s : State) (arg : Arg) : Option Bool :=
  if (arg.extractLsb' 0 22).toInt = s.position.counter then none
  else some (decide (s.position.counter < (arg.extractLsb' 0 22).toInt))

theorem counterRequest (s : State) (l : Link) (rank : Rank) (arg : Arg) :
    requestSearch l rank (counterSearch s l rank arg) s =
      requestSearch l rank (if counterFits s arg = true then some (counterRecord l rank arg) else none) s := by
  rw [counterSearch_eq, counterFits]

theorem indexRequest (s : State) (l : Link) (rank : Rank) (arg : Arg) :
    requestSearch l rank (indexSearch l rank arg) s =
      requestSearch l rank (if indexFits arg = true then some (indexRecord l rank arg) else none) s := by
  rw [indexSearch_eq, indexFits]

theorem counterRecord_direction (s : State) (l : Link) (rank : Rank) (arg : Arg) :
    ((counterRecord l rank arg).planned s.position).direction = Direction.ofForward (counterAhead s arg) := by
  rw [planned_counterRecord]
  exact directionOf_ofForward _ _

theorem planned_indexRecord (p : Position) (rank : Rank) (fits : indexFits arg = true) :
    (indexRecord l rank arg).planned p = { indexRecord l rank arg with
      mode := indexMode p.index p.counter arg.toInt
      direction := some (if 0 < arg.toInt then .forward else .reverse) } := by
  have count : arg.toInt ≠ 0 := by
    simp only [indexFits, decide_eq_true_eq] at fits
    omega
  exact planned_index rfl count

theorem indexRecord_direction (s : State) (l : Link) (rank : Rank) (fits : indexFits arg = true) :
    ((indexRecord l rank arg).planned s.position).direction =
      Direction.ofForward (some (decide (0 < arg.toInt))) := by
  rw [planned_indexRecord s.position rank fits]
  simp [Direction.ofForward]

/-! ## The parts -/

theorem searchCounter_refused {code : Nat} (live : liveIn s.power.state l = true) (idle : s.undisturbed)
    (lawful : WriterLaw s)
    (refused : searchRefusal s (effectiveRank s l r) (counterFits s arg) (counterAhead s arg) = some code) :
    exec (.searchCounter l r arg) s = .next { s with ports := portsAfter s (some (l, refusedWith code)) 0 } :=
  search_refused (counterRequest s l _ arg) (fun _ => counterRecord_direction s l _ arg) live idle lawful refused

theorem searchIndex_refused {code : Nat} (live : liveIn s.power.state l = true) (idle : s.undisturbed)
    (lawful : WriterLaw s)
    (refused : searchRefusal s (effectiveRank s l r) (indexFits arg) (some (decide (0 < arg.toInt))) = some code) :
    exec (.searchIndex l r arg) s = .next { s with ports := portsAfter s (some (l, refusedWith code)) 0 } :=
  search_refused (indexRequest s l _ arg) (indexRecord_direction s l _) live idle lawful refused

/-- A SEARCH_COUNTER as it is accepted. -/
def acceptedCounter (s : State) (l : Link) (r : Rank) (arg : Arg) : Search :=
  (counterRecord l (effectiveRank s l r) arg).planned s.position

theorem begins_counter (h : s.SearchAccepted (effectiveRank s l r) (counterAhead s arg))
    (apart : (arg.extractLsb' 0 22).toInt ≠ s.position.counter) :
    beginSearch (acceptedCounter s l r arg) (heldBy l r s) = searchBegun (acceptedCounter s l r arg) (heldBy l r s) := by
  have ahead : counterAhead s arg = some (decide (s.position.counter < (arg.extractLsb' 0 22).toInt)) := if_neg apart
  rw [ahead] at h
  refine beginSearch_eq (planned_planned _ _) ?_ ?_ (h.lets.same (v := heldBy l r s) rfl rfl)
  · rw [acceptedCounter, planned_counterRecord]
    simpa only [decide_eq_true_eq] using directionOf_sub apart
  · rw [acceptedCounter, planned_counterRecord]
    simpa [counterRecord, heldBy] using apart

theorem acceptedCounter_eq (s : State) (l : Link) (r : Rank) (arg : Arg) :
    { acceptedCounter s l r arg with phase := .thread } =
      { index := false, count := 0, mode := .target (arg.extractLsb' 0 22).toInt
        direction := (counterAhead s arg).map fun b => if b then .forward else .reverse, phase := .thread
        endPlay := arg.getLsbD 22, rank := effectiveRank s l r, link := l } := by
  rw [acceptedCounter, planned_counterRecord, directionOf_ofForward]
  rfl

/-- The phase of the record is not read as the search begins. -/
theorem searchBegun_phase (x : Search) (p : SearchPhase) (s : State) :
    searchBegun { x with phase := p } s = searchBegun x s := rfl

/-- A SEARCH_INDEX as it is accepted. -/
def acceptedIndex (s : State) (l : Link) (r : Rank) (arg : Arg) : Search :=
  (indexRecord l (effectiveRank s l r) arg).planned s.position

theorem begins_index (fits : indexFits arg = true)
    (h : s.SearchAccepted (effectiveRank s l r) (some (decide (0 < arg.toInt)))) :
    beginSearch (acceptedIndex s l r arg) (heldBy l r s) = searchBegun (acceptedIndex s l r arg) (heldBy l r s) := by
  refine beginSearch_eq (planned_planned _ _) ?_ (fun there => ?_) (h.lets.same (v := heldBy l r s) rfl rfl)
  · rw [acceptedIndex, planned_indexRecord _ _ fits]
    simp only [decide_eq_true_eq]
  · rw [acceptedIndex, planned_indexRecord _ _ fits] at there
    exact (indexMode_beyond there).1 rfl

/-! ## The waiting search -/

theorem State.Waiting.begun_counter (h : s.Waiting x) (idle : s.undisturbed) (lawful : WriterLaw s)
    (intent : s.transport.intent = some .stop) (counter : x.index = false) (mode : x.mode = .target t)
    (apart : t ≠ s.position.counter) :
    exec .threadedSwitchCloses s = .next
      { searchBegun { x with direction := some (if s.position.counter < t then .forward else .reverse) } (enter .stop s) with
        ports := portsAfter s none (enterKinds .stop s) } := by
  have same : (enter .stop s).position.counter = s.position.counter := congrArg Prod.snd (enter_tape .stop s)
  refine h.begun idle lawful intent (beginSearch_eq (forward := decide (s.position.counter < t)) ?_ ?_ ?_
    ((h.free.lets _).same (by simp) (by simp)))
  · rw [planned_counter counter mode, same, directionOf_sub apart]
  · simp only [decide_eq_true_eq]
  · rw [same]
    simpa [mode] using apart

theorem State.Waiting.begun_index (h : s.Waiting x) (idle : s.undisturbed) (lawful : WriterLaw s)
    (intent : s.transport.intent = some .stop) (index : x.index = true) (count : 1 ≤ x.count.natAbs) :
    exec .threadedSwitchCloses s = .next
      { searchBegun { x with
          mode := indexMode s.position.index s.position.counter x.count
          direction := some (if 0 < x.count then .forward else .reverse) } (enter .stop s) with
        ports := portsAfter s none (enterKinds .stop s) } := by
  have same : (enter .stop s).position.counter = s.position.counter := congrArg Prod.snd (enter_tape .stop s)
  have list : (enter .stop s).position.index = s.position.index := congrArg Prod.fst (enter_tape .stop s)
  refine h.begun idle lawful intent (beginSearch_eq (forward := decide (0 < x.count)) ?_ ?_ (fun there => ?_)
    ((h.free.lets _).same (by simp) (by simp)))
  · rw [planned_index index (by omega), same, list]
  · simp only [decide_eq_true_eq]
  · rw [same] at there
    exact (indexMode_beyond there).1 rfl

/-- Settles O29: the refusals, the beginnings of the two searches, and the search that waits for the tape. -/
theorem searchesBegin : Obligations.SearchesBegin := by
  refine ⟨fun l r arg code s live idle lawful => ⟨?_, ?_⟩, fun l r arg s power idle lawful unsearched unintended => ?_,
    fun l r arg s power idle lawful unsearched => ?_,
    fun x t s power idle lawful state motion running phase faults tapeEnd tapeStart => ?_⟩
  · exact searchCounter_refused live idle lawful
  · exact searchIndex_refused live idle lawful
  · intro target inRange ahead x h found accepted_
    obtain ⟨_, met⟩ := searchAccepted_of_none accepted_
    have record : { acceptedCounter s l r arg with phase := .thread } = x := acceptedCounter_eq s l r arg
    have request := counterRequest s l (effectiveRank s l r) arg
    have planned : counterFits s arg = true → _ := fun _ => counterRecord_direction s l (effectiveRank s l r) arg
    have found_eq : h.foundBy (acceptedCounter s l r arg) = found := foundBy_unsearched unsearched
    refine ⟨fun parked => ?_, fun unparked apart => ?_, fun unparked there plays tapeEnd => ?_,
      fun unparked there stops _ quiet => ?_⟩
    · exact search_threading request planned power idle lawful unsearched accepted_ parked record
    · rw [← record, searchBegun_phase]
      exact search_begun request planned power idle lawful unsearched accepted_ unparked (begins_counter met apart)
    · rw [← found_eq]
      exact search_found_playing request planned power idle lawful unsearched accepted_ unparked rfl rfl
        (congrArg SearchMode.target there) plays tapeEnd
    · rw [← found_eq]
      exact search_found_stopping request planned power idle lawful unsearched accepted_ unparked rfl rfl
        (congrArg SearchMode.target there) stops quiet unintended
  · intro n count candidates x h accepted_
    obtain ⟨fits, met⟩ := searchAccepted_of_none accepted_
    have record : { acceptedIndex s l r arg with phase := .thread } = x := by
      rw [acceptedIndex, planned_indexRecord _ _ fits]
      rfl
    have request := indexRequest s l (effectiveRank s l r) arg
    have planned := indexRecord_direction (arg := arg) s l (effectiveRank s l r)
    refine ⟨fun parked => ?_, fun unparked => ?_⟩
    · exact search_threading request planned power idle lawful unsearched accepted_ parked record
    · rw [← record, searchBegun_phase]
      exact search_begun request planned power idle lawful unsearched accepted_ unparked (begins_index fits met)
  · intro c forward list candidates y u found
    have waiting : s.Waiting x := ⟨power, state, motion, running, phase, ⟨faults, tapeEnd, tapeStart⟩⟩
    refine ⟨fun intent counter mode apart => ?_, fun intent index count => ?_,
      fun intent counter there stops quiet => ?_, fun intent => ?_⟩
    · have record : y = { x with direction := some (if c < t then .forward else .reverse) } := by
        simp [y, forward, counter, mode]
      rw [record]
      exact waiting.begun_counter idle lawful intent counter mode apart
    · have record : y = { x with
          mode := indexMode s.position.index s.position.counter x.count
          direction := some (if 0 < x.count then .forward else .reverse) } := by
        simp only [y, forward, index, if_true, decide_eq_true_eq]
        rfl
      rw [record]
      exact waiting.begun_index idle lawful intent index count
    · have same : (enter .stop s).position.counter = c := congrArg Prod.snd (enter_tape .stop s)
      have ended : u.foundBy x = found := by simp only [State.foundBy, u, same, found]
      rw [← ended]
      exact waiting.found lawful quiet intent counter there stops
    · exact waiting.aborted idle lawful intent

end Sys2Proof.Machine
end

