-- ==== Sys2Proof/Proofs/AreaWrites.lean ====
section
/-!
PROOF. The writer (R175, R176): what ends an area write, and the round that takes the next dirty area.
-/

namespace Sys2Proof.Machine

variable {s u v w : State} {ks : KindSet} {c : AreaCopy}

/-! ## The round -/

theorem workingCopy_eq_copyOf (s : State) (a : Area) : workingCopy s a = copyOf s a := by cases a <;> rfl

/-- The next dirty area of a round taken, outside HOLD. -/
def State.goingOn (round : List Area) (u : State) : State :=
  match round.find? (flagOf u.store.dirty) with
  | some b =>
    if u.power.state = .hold then u
    else { u with store := { u.store with dirty := putFlag b false u.store.dirty, writer := some (copyOf u b) } }
  | none => u

theorem goingOn_hold (round : List Area) (hold : u.power.state = .hold) : u.goingOn round = u := by
  simp only [State.goingOn, hold, if_true]
  split <;> rfl

theorem goingOn_away (round : List Area) (away : u.power.state ≠ .hold) : u.goingOn round = startRound round u := by
  simp only [State.goingOn, startRound, away, if_false]
  cases round.find? (flagOf u.store.dirty) with
  | none => rfl
  | some b =>
    simp only [startWrite, workingCopy_eq_copyOf]
    rfl

theorem nextWrite_eq (u : State) : nextWrite u = u.goingOn (roundAfter u.store.last) := by
  by_cases hold : u.power.state = .hold
  · simp [nextWrite, State.inHold, hold, goingOn_hold]
  · simp [nextWrite, State.inHold, hold, goingOn_away]

theorem goingOn_raising (round : List Area) (u s : State) (ks : KindSet) :
    (u.raising s ks).goingOn round = (u.goingOn round).raising s ks := by
  have copies : ∀ b, copyOf (u.raising s ks) b = copyOf u b := by rintro (_ | _ | _ | _) <;> rfl
  simp only [State.goingOn, raising_keeps, copies]
  cases round.find? (flagOf u.store.dirty) with
  | none => rfl
  | some b =>
    by_cases hold : u.power.state = .hold
    · simp only [hold, if_true]
    · simp only [hold, if_false]
      rfl

@[simp] theorem goingOn_power (round : List Area) (u : State) : (u.goingOn round).power = u.power := by
  simp only [State.goingOn]
  split
  · split <;> rfl
  · rfl

/-- A round over every area leaves the writer at work or nothing dirty. -/
theorem goingOn_lawful {round : List Area} (full : ∀ a, a ∈ round) (u : State) : WriterLaw (u.goingOn round) := by
  by_cases hold : u.power.state = .hold
  · exact .inl (by simpa using hold)
  · simp only [State.goingOn, hold, if_false]
    split
    · exact .inr (.inl (by simp))
    · next clean => exact .inr (.inr fun a => by simpa using List.find?_eq_none.1 clean a (full a))

theorem mem_roundAfter (last : Option Area) (a : Area) : a ∈ roundAfter last := by
  rcases last with _ | _ | _ | _ | _ <;> cases a <;> decide

/-! ## The end of a write -/

/-- A write acknowledged: the copy stored with its sum, the failed flag cleared. -/
def State.stored (c : AreaCopy) (s : State) : State :=
  { s with
    store := { s.store with writer := none, failed := putFlag c.area false s.store.failed, last := some c.area }
    nv := s.nv.receive .written c }

/-- A write given up: the area dirty and failed again, the store as the free value tells (log entry 8). -/
def State.givenUp (c : AreaCopy) (s : State) : State :=
  { s with
    store := { s.store with
      writer := none, failed := putFlag c.area true s.store.failed, dirty := putFlag c.area true s.store.dirty
      last := some c.area }
    nv := s.nv.receive (Config.storeResidue s.draws) c
    draws := s.draws + 1 }

theorem raiseIf_own (b : Bool) (k : Kind) (ports : v.ports = s.ports) (power : v.power.state = s.power.state) :
    raiseIf b k v = v.raising s (if b then k.single else 0) := by
  have raised := raiseIf_raising (ks := 0) b k power
  rwa [raising_zero ports, noKinds_or] at raised

theorem writeAcknowledged_eq (writer : s.store.writer = some c) : writeAcknowledged s =
    ((s.stored c).goingOn (roundAfter (some c.area))).raising s (if !anyFlag s.store.dirty then 0x08000#18 else 0) := by
  have raised := raiseIf_own (s := s) (v := s.stored c) (!anyFlag s.store.dirty) .store rfl rfl
  simp only [writeAcknowledged, writer]
  refine (congrArg nextWrite raised).trans ?_
  rw [nextWrite_eq, goingOn_raising]
  rfl

theorem writeFailed_eq (writer : s.store.writer = some c) : writeFailed s =
    ((s.givenUp c).goingOn (roundAfter (some c.area))).raising s
      (if flagOf s.store.failed c.area then 0 else 0x08000#18) := by
  have raised := raiseIf_own (s := s) (v := s.givenUp c) (!flagOf s.store.failed c.area) .store rfl rfl
  have kinds : (if (!flagOf s.store.failed c.area) = true then Kind.store.single else 0) =
      if flagOf s.store.failed c.area = true then 0 else 0x08000#18 := by
    cases flagOf s.store.failed c.area <;> rfl
  rw [kinds] at raised
  simp only [writeFailed, writer]
  refine (congrArg nextWrite raised).trans ?_
  rw [nextWrite_eq, goingOn_raising]
  rfl

theorem exec_storeWriteAck (writer : s.store.writer = some c) : exec .storeWriteAck s = .next
    { (s.stored c).goingOn (roundAfter (some c.area)) with
      ports := portsAfter s none (if !anyFlag s.store.dirty then 0x08000#18 else 0) } :=
  finished_raising (writeAcknowledged_eq writer) (by simp; rfl) (goingOn_lawful (mem_roundAfter _) _)

theorem exec_storeWriteTimeout (writer : s.store.writer = some c) : exec .storeWriteTimeout s = .next
    { (s.givenUp c).goingOn (roundAfter (some c.area)) with
      ports := portsAfter s none (if flagOf s.store.failed c.area then 0 else 0x08000#18) } :=
  finished_raising (writeFailed_eq writer) (by simp; rfl) (goingOn_lawful (mem_roundAfter _) _)

end Sys2Proof.Machine
end

