-- ==== Sys2Proof/Proofs/SettingsWritten.lean ====
section
/-!
PROOF. WRITE_SETTING (R178): the value taken, the change handed on, and the writer that takes the changed area at once.
-/

namespace Sys2Proof.Machine

variable {s u v w : State} {ks : KindSet} {n taken : Nat}

/-! ## The writer after a request -/

/-- The writer reads no port. -/
theorem startWriter_ports (u : State) (p : PerLink Port) :
    startWriter { u with ports := p } = { startWriter u with ports := p } := by
  have copies : ∀ b, workingCopy { u with ports := p } b = workingCopy u b := by rintro (_ | _ | _ | _) <;> rfl
  simp only [startWriter, startRound, State.inHold]
  by_cases busy : (u.power.state == .hold || u.store.writer.isSome) = true
  · simp only [busy, if_true]
  · simp only [busy, if_false, Bool.false_eq_true]
    cases (roundAfter none).find? (flagOf u.store.dirty) with
    | none => rfl
    | some b =>
      simp only [startWrite, copies]
      rfl

/-- A frame that may reach the engine and makes an area dirty, which an IDLE writer takes. -/
theorem acting_writing {l : Link} {r : Rank} {body : Rank → State → Answered} {a : Answer}
    (live : liveIn s.power.state l = true) (same : body (effectiveRank s l r) s = (a, w)) (idle : w.undisturbed)
    (writes : startWriter w = v.raising s ks) (power : v.power.state = s.power.state) :
    acting l r body s = .next { v with ports := portsAfter s (some (l, a.holder)) ks } := by
  have written : ∀ f, startWriter (w.modPort l f) = (startWriter w).modPort l f := by
    intro f
    have ports : (startWriter w).ports = w.ports := by simp
    simp only [State.modPort, State.modPorts, ports]
    exact startWriter_ports w _
  have framed := answered_raised (l := l) (a := a) (u := v.raising s ks) power rfl
  simp only [acting, request, State.live, live, if_true, frame, same]
  rw [settle_undisturbed (idle.congr (by simp) (by simp) (by simp) (by simp) (by simp) (by simp [State.now])), finish,
    written, writes]
  exact congrArg Host.Outcome.next framed

/-- A writer that had nothing to take up takes the settings, where they alone have become dirty. -/
theorem startWriter_settings (lawful : WriterLaw s) (power : w.power = s.power)
    (store : w.store = (markDirty .settings s).store) :
    startWriter w = areaChanged .settings { w with store := s.store } := by
  have marked : w.store = { s.store with dirty := putFlag .settings true s.store.dirty } := store
  by_cases waits : s.power.state = .hold ∨ s.store.writer ≠ none
  · have idle : (w.inHold || w.store.writer.isSome) = true := by
      simpa [State.inHold, power, marked, Option.isSome_iff_ne_none] using waits
    have kept : ¬ (w.power.state ≠ .hold ∧ s.store.writer = none) := by
      rw [power]
      tauto
    rw [startWriter, if_pos idle, areaChanged, if_neg (by exact kept), ← marked]
  · obtain ⟨away, free⟩ := not_or.1 waits
    have free : s.store.writer = none := not_not.1 free
    have dirty : s.store.dirty = AreaFlags.none := by
      have clean : ∀ a, flagOf s.store.dirty a = false := by simpa [WriterLaw, away, free] using lawful
      have each : s.store.dirty = ⟨flagOf s.store.dirty .presets, flagOf s.store.dirty .events,
        flagOf s.store.dirty .settings, flagOf s.store.dirty .classes⟩ := rfl
      rw [each]
      simp [clean, AreaFlags.none]
    have first : (roundAfter none).find? (flagOf w.store.dirty) = some .settings := by
      rw [marked, dirty]
      rfl
    have taken : startWrite .settings w =
        { w with store := { s.store with writer := some (copyOf w .settings) } } := by
      have again : putFlag .settings false (putFlag .settings true s.store.dirty) = s.store.dirty := by
        rw [dirty]
        rfl
      simp only [startWrite, State.modStore, marked, again, workingCopy_eq_copyOf]
    rw [startWriter, if_neg (by simp [State.inHold, power, away, marked, free]), startRound, first, areaChanged,
      if_pos (by exact ⟨by rwa [power], free⟩)]
    exact taken

/-! ## The value taken -/

theorem clamp_eq {lo hi : Nat} (x : Nat) (ordered : lo ≤ hi) : clamp lo hi x = max lo (min hi x) := by
  simp only [clamp]
  (repeat' split) <;> omega

theorem settingRange_ordered (n : Nat) : (settingRange n).1 ≤ (settingRange n).2 := by
  simp only [settingRange]
  split <;> decide

theorem settingTaken_eq (n x : Nat) : settingTaken n x = max (settingRange n).1 (min (settingRange n).2 x) :=
  clamp_eq x (settingRange_ordered n)

/-- A flag is written by 0 or 1. -/
theorem flag_taken {x : Nat} (range : x ≤ 1) : (x != 0) = (x == 1) := by
  interval_cases x <;> rfl

theorem speedOfCode_eq (x : Nat) : speedOfCode x = if x = 0 then .sp else if x = 1 then .lp else .ep := by
  match x with
  | 0 | 1 | _ + 2 => simp [speedOfCode]

/-! ## The change handed on -/

/-- The change of setting `n` to `v` handed on to the block that reads it: `s` is the state it was found in, `x` the settings
written, `u` the state after the writing. -/
def State.handed (n v : Nat) (s : State) (x : Settings) (u : State) : State :=
  match n with
  | 0 => { u with position := { s.position with counter := 0, index := [], pendingMark := false } }
  | 1 | 2 => { u with clock := { s.clock with source := if x.timebase = .mains then .mains else .crystal } }
  | 4 => { u with gauge := { s.gauge with ring := [], entries := 0, estimate := .none, fraction := none
                                          remainingSp := none } }
  | 8 => if v = 0 then { u with clock := { s.clock with candidate := none, correction := none } } else u
  | _ => u

/-- The kinds that handing on raises: GAUGE where an estimate is cleared (R71). -/
def handedKinds (n : Nat) (s : State) : KindSet := if n = 4 ∧ s.gauge.estimate ≠ .none then 0x00020#18 else 0

theorem standardChanged_unsearched (unsearched : u.position.search = none) : standardChanged u =
    { u with position := { u.position with counter := 0, index := [], pendingMark := false } } := by
  have still : u.position.search.isSome = false := by rw [unsearched]; rfl
  have kept : ∀ x : State, x.position.search = none → endSearch .aborted x = x := by
    intro x ended
    simp [endSearch, ended]
  simp only [standardChanged, still, Bool.false_eq_true, if_false]
  exact kept _ unsearched

theorem chooseSource_supplied (away : u.power.state ≠ .hold) : chooseSource u =
    { u with clock := { u.clock with source := if u.settings.timebase = .mains then .mains else .crystal } } := by
  simp [chooseSource, State.modClock, chosenSource, State.inHold, away]

theorem clearEstimate_eq (u : State) : clearEstimate u =
    State.raising { u with gauge := u.gauge.cleared } u (if u.gauge.estimate ≠ Estimate.none then 0x00020#18 else 0) := by
  have raised := raiseIf_own (s := u) (v := { u with gauge := u.gauge.cleared }) (u.gauge.estimate != Estimate.none) .gauge rfl rfl
  simpa [clearEstimate, State.modGauge, Kind.single, Kind.bit] using raised

theorem handedKinds_other (other : n ≠ 4) (s : State) : handedKinds n s = 0 := if_neg fun h => other h.1

theorem handSetting_eq (n v : Nat) (away : u.power.state ≠ .hold) (unsearched : u.position.search = none) :
    handSetting n v u = (State.handed n v u u.settings u).raising u (handedKinds n u) := by
  match n with
  | 0 =>
    rw [handedKinds_other (by decide), raising_zero (by rfl)]
    exact standardChanged_unsearched unsearched
  | 1 | 2 =>
    rw [handedKinds_other (by decide), raising_zero (by rfl)]
    exact chooseSource_supplied away
  | 4 =>
    refine (clearEstimate_eq u).trans ?_
    simp only [handedKinds, true_and]
    rfl
  | 8 =>
    rw [handedKinds_other (by decide), raising_zero (by simp only [State.handed]; split <;> rfl)]
    rfl
  | 3 | 5 | 6 | 7 | _ + 9 =>
    rw [handedKinds_other (by omega), raising_zero (by rfl)]
    rfl

/-! ## The change taken up by the writer -/

/-- A state with its store replaced. -/
def State.storing (t : Store) (u : State) : State := { u with store := t }

/-- The area's change touches the store alone, and reads the power state, the store and the area's copy. -/
theorem areaChanged_eq {a : Area} (power : u.power = w.power) (store : u.store = w.store)
    (copy : copyOf u a = copyOf w a) : areaChanged a u = u.storing (areaChanged a w).store := by
  simp only [areaChanged, power, store, copy, State.storing]
  split <;> rfl

@[simp] theorem handed_keeps (n v : Nat) (s : State) (x : Settings) (u : State) :
    (State.handed n v s x u).transport = u.transport ∧ (State.handed n v s x u).tuner = u.tuner ∧
    (State.handed n v s x u).engine = u.engine ∧ (State.handed n v s x u).power = u.power := by
  simp only [State.handed]
  (repeat' split) <;> simp

theorem handed_now (n v : Nat) (x : Settings) (u : State) : (State.handed n v u x u).now = u.now := by
  simp only [State.handed]
  (repeat' split) <;> rfl

/-- Handing a setting on leaves nothing to be done at the engine. -/
theorem handed_undisturbed (n v : Nat) (x : Settings) (idle : u.undisturbed) :
    (State.handed n v u x u).undisturbed :=
  idle.congr (by simp) (by simp) (by simp) (by simp) (by simp) (handed_now n v x u)

/-- The store may be replaced before the change is handed on or after it. -/
theorem handed_storing (n v : Nat) (s : State) (x : Settings) (marked t : Store) (ks : KindSet) :
    let u : State := { s with settings := x, store := marked }
    ((State.handed n v u x u).raising u ks).storing t =
      (State.handed n v s x (State.storing t { s with settings := x })).raising s ks := by
  match n with
  | 0 | 1 | 2 | 3 | 4 | 5 | 6 | 7 | _ + 9 => rfl
  | 8 => by_cases off : v = 0 <;> simp only [State.handed, off, if_true, if_false] <;> rfl

/-- A setting changed, the change handed on, and SETTINGS taken by the writer. -/
theorem startWriter_changed (n v : Nat) (lawful : WriterLaw s) (away : s.power.state ≠ .hold)
    (unsearched : s.position.search = none) :
    startWriter (handSetting n v (changeSetting n v s)) =
      (State.handed n v s (s.settings.write n v)
        (areaChanged .settings { s with settings := s.settings.write n v })).raising s (handedKinds n s) := by
  have marked := handSetting_eq (u := changeSetting n v s) n v away unsearched
  generalize same : handSetting n v (changeSetting n v s) = w at marked
  have power : w.power = s.power := by simp [← same]
  have store : w.store = (markDirty .settings s).store := by
    simp only [← same, handSetting_keeps]
    rfl
  have settings : w.settings = s.settings.write n v := by
    simp only [← same, handSetting_keeps]
    rfl
  let y : State := { s with settings := s.settings.write n v }
  have changed : areaChanged .settings y = y.storing (areaChanged .settings y).store := areaChanged_eq rfl rfl rfl
  rw [changed]
  calc startWriter w
      = areaChanged .settings (w.storing s.store) := startWriter_settings lawful power store
    _ = w.storing (areaChanged .settings y).store :=
      areaChanged_eq (u := w.storing s.store) (w := y) power rfl (congrArg AreaCopy.settings settings)
    _ = _ := by
      rw [marked]
      exact handed_storing n v s _ _ _ _

section
variable {l : Link} {r : Rank} {number : Selector} {value : Value}
  (live : liveIn s.power.state l = true) (idle : s.undisturbed) (lawful : WriterLaw s) (other : number.toNat ≠ 15)
include live idle lawful

/-- *guide relays keys* on Link G. -/
theorem exec_writeSetting_guide (guide : number.toNat = 14 ∧ l = .g) :
    exec (.writeSetting l r number value) s = .next { s with ports := portsAfter s (some (l, refusedWith 3)) 0 } :=
  acting_silent (a := .refuse .rank) live (by simp only [writeSetting]; rw [if_pos guide]; rfl) rfl rfl idle lawful

include other

theorem exec_writeSetting_held (allowed : ¬ (number.toNat = 14 ∧ l = .g))
    (held : s.settings.coded number.toNat = settingTaken number.toNat value.toNat) :
    exec (.writeSetting l r number value) s = .next
      { s with
        ports := portsAfter s
          (some (l, accepted (number ++ BitVec.ofNat 20 (settingTaken number.toNat value.toNat)))) 0 } :=
  acting_silent (a := .reply _) live (by simp only [writeSetting]; rw [if_neg allowed, if_neg other, if_pos held]; rfl)
    rfl rfl idle lawful

theorem exec_writeSetting_changed (unsearched : s.position.search = none) (allowed : ¬ (number.toNat = 14 ∧ l = .g))
    (differs : s.settings.coded number.toNat ≠ settingTaken number.toNat value.toNat) :
    let v := settingTaken number.toNat value.toNat
    let x := s.settings.write number.toNat v
    exec (.writeSetting l r number value) s = .next
      { State.handed number.toNat v s x (areaChanged .settings { s with settings := x }) with
        ports := portsAfter s (some (l, accepted (number ++ BitVec.ofNat 20 v))) (handedKinds number.toNat s) } := by
  intro v x
  have away : s.power.state ≠ .hold := by
    rintro hold
    rw [hold] at live
    cases live
  refine acting_writing (a := .reply _) live
    (by simp only [writeSetting]; rw [if_neg allowed, if_neg other, if_neg differs]; rfl) ?_
    (startWriter_changed number.toNat v lawful away unsearched) ?_
  · have marked := handSetting_eq (u := changeSetting number.toNat v s) number.toNat v away unsearched
    have changed : (changeSetting number.toNat v s).undisturbed := idle.same rfl rfl rfl rfl rfl
    rw [marked]
    exact (handed_undisturbed _ v _ changed).raising _ _
  · simp only [handed_keeps, areaChanged]
    split <;> rfl

end

end Sys2Proof.Machine
end

