-- ==== Sys2Proof/Proofs/StoreAndSettings.lean ====
section
/-!
PROOF. The statement on area writes and on WRITE_SETTING (R175, R176, R178).
-/

namespace Sys2Proof.Machine

variable {n v : Nat}

/-- A setting as the statement reads it, *timer on* aside. -/
def Settings.heldAs (x : Settings) (n : Nat) : Nat :=
  let code := fun (b : Bool) => if b then 1 else 0
  match n with
  | 0 => if x.standard = .f25 then 0 else 1
  | 1 => code x.mains60
  | 2 => if x.timebase = .mains then 0 else 1
  | 3 => x.defaultClass
  | 4 => x.g100
  | 5 => code x.autoRewind
  | 6 => code x.autoPlay
  | 7 => code x.indexWrite
  | 8 => code x.autoClock
  | 9 => x.lead
  | 10 => x.labelLead
  | 11 => x.extension
  | 12 => x.fallbackSpeed.code
  | 13 => x.manualSpeed.code
  | _ => code x.guideRelays

theorem heldAs_eq (x : Settings) (below : n < 15) : x.heldAs n = x.coded n := by
  match n, below with
  | 0, _ => cases standard : x.standard <;> simp [Settings.heldAs, Settings.coded, Standard.code, standard]
  | 2, _ => cases timebase : x.timebase <;> simp [Settings.heldAs, Settings.coded, Source.code, timebase]
  | 1, _ | 3, _ | 4, _ | 5, _ | 6, _ | 7, _ | 8, _ | 9, _ | 10, _ | 11, _ | 12, _ | 13, _ | 14, _ => rfl

/-- A setting written as the statement writes it. -/
def Settings.taking (x : Settings) (n v : Nat) : Settings :=
  let speed := fun (k : Nat) => if k = 0 then Speed.sp else if k = 1 then .lp else .ep
  match n with
  | 0 => { x with standard := if v = 0 then .f25 else .f30 }
  | 1 => { x with mains60 := v == 1 }
  | 2 => { x with timebase := if v = 0 then .mains else .crystal }
  | 3 => { x with defaultClass := v }
  | 4 => { x with g100 := v }
  | 5 => { x with autoRewind := v == 1 }
  | 6 => { x with autoPlay := v == 1 }
  | 7 => { x with indexWrite := v == 1 }
  | 8 => { x with autoClock := v == 1 }
  | 9 => { x with lead := v }
  | 10 => { x with labelLead := v }
  | 11 => { x with extension := v }
  | 12 => { x with fallbackSpeed := speed v }
  | 13 => { x with manualSpeed := speed v }
  | _ => { x with guideRelays := v == 1 }

theorem taking_eq (x : Settings) (below : n < 15) (range : v ≤ (settingRange n).2) : x.taking n v = x.write n v := by
  match n, below with
  | 1, _ | 5, _ | 6, _ | 7, _ | 8, _ | 14, _ => simp only [Settings.taking, Settings.write, flag_taken range]
  | 12, _ | 13, _ => simp only [Settings.taking, Settings.write, speedOfCode_eq]
  | 0, _ | 2, _ | 3, _ | 4, _ | 9, _ | 10, _ | 11, _ => rfl

theorem settingTaken_le (n x : Nat) : settingTaken n x ≤ (settingRange n).2 := by
  have ordered := settingRange_ordered n
  rw [settingTaken_eq]
  omega

/-- Settles O57: the two ends of an area write, and WRITE_SETTING refused, held and changed. -/
theorem storeAndSettingsWritten : Obligations.StoreAndSettingsWritten := by
  refine ⟨fun c s writer => ?_, fun l r number value s live idle lawful other unsearched => ?_⟩
  · have ends := And.intro (exec_storeWriteAck writer) (exec_storeWriteTimeout writer)
    cases c <;> exact ends
  · intro n range v x code speed held taken u source handed echo
    have numbered : n ≠ 15 := fun h => other (BitVec.eq_of_toNat_eq h)
    have below : n < 15 := by
      have : n < 16 := number.isLt
      omega
    have range_eq : range = settingRange n := by
      simp only [range]
      rfl
    have v_eq : v = settingTaken n value.toNat := by rw [settingTaken_eq, ← range_eq]
    have held_eq : held = s.settings.coded n := heldAs_eq s.settings below
    have taken_eq : taken = s.settings.write n v :=
      taking_eq s.settings below (by rw [v_eq]; exact settingTaken_le n _)
    have handed_eq : handed = State.handed n v s taken u := rfl
    by_cases guide : n = 14 ∧ l = .g
    · rw [if_pos guide]
      exact exec_writeSetting_guide live idle lawful guide
    rw [if_neg guide]
    by_cases same : held = v
    · rw [if_pos same]
      simp only [echo, v_eq]
      exact exec_writeSetting_held live idle lawful numbered guide (held_eq.symm.trans (same.trans v_eq))
    · have u_eq : u = areaChanged .settings { s with settings := s.settings.write n v } := by simp only [u, taken_eq]
      rw [if_neg same, handed_eq, u_eq, taken_eq]
      simp only [echo, v_eq]
      exact exec_writeSetting_changed live idle lawful numbered unsearched guide
        fun h => same (held_eq.trans (h.trans v_eq.symm))

end Sys2Proof.Machine
end
